-- ==== Sys2Proof/Word.lean ====
section
/-!
DEFINITION. The words of the block (spec 00_scope.md rule R4, 20_memory.md rules R40 and R45, 30_encoding.md rule R60).
Bit 0 is the least significant bit of every value, and every value is unsigned (00_scope.md section 4).
-/

namespace Sys2Proof

/-- One byte of data: what a `ReadPort` returns and a `WritePort` takes (R45). -/
abbrev Byte := BitVec 8

/-- A port address of the I/O port space (R40). -/
abbrev Port := BitVec 16

/-- A transaction word, `{KIND[1:0], PORT[15:0], DATA[7:0]}` (R60). -/
abbrev TxWord := BitVec 26

end Sys2Proof
end

