-- ==== Sys2Proof/Config.lean ====
section
/-!
DEFINITION. The implementation parameters of spec 00_scope.md rule R5: their types, and the two parameters the spec
leaves OPEN. The default column of R5 is `Machine.hardware` in Machine/Operands.lean: it stands
there because several of its values are general knowledge and may have to be mended.
-/

namespace Sys2Proof

/-- A mask-and-compare pattern on the port address, the operands of `Match` (R80). -/
structure PortPattern where
  mask : BitVec 16
  pattern : BitVec 16
deriving DecidableEq, Repr

/-- One entry of the four-entry special-mode layout table (R42, R111): the RAM bank seen in each 16 KB quarter of the
logical address space, lowest quarter first. PRESUMED (log entry 14): the spec gives the entry no shape, and this is
the shape of decision D21's informative values. -/
structure SpecialLayout where
  banks : Vector (BitVec 3) 4
deriving DecidableEq, Repr, Inhabited

/-- The paged address window of R42: `BANK_SIZE` bytes of logical address space from `first` on. DEDUCED (log entry 14):
a RAM segment is mapped into the window, so the window has a segment's size. DESIGN CHOICE (log entry 35): it is the
window of the RAM segment alone; where the ROM bank lies, which D22 leaves OPEN too, is no part of it. -/
structure PagedWindow where
  first : Nat
deriving DecidableEq, Repr, Inhabited

/-- The seven sizes of R5. All but `bankSize` are also the widths of fields that other rules give as numbers (log entry
20): `Sizes.wellFormed` says which values agree with those rules. -/
structure Sizes where
  /-- `PORT_WIDTH`, in bits (R40, R60). -/
  portWidth : Nat
  /-- `DATA_WIDTH`, in bits (R45, R60). -/
  dataWidth : Nat
  /-- `RAM_BANKS`: as many as `ramBank` names (R11). -/
  ramBanks : Nat
  /-- `BANK_SIZE`, in bytes. -/
  bankSize : Nat
  /-- `ROM_BANKS`: as many as `{romHigh, romLow}` names (R14). -/
  romBanks : Nat
  /-- `SPECIAL_CONFIGS`: as many as `pagingConfiguration` names (R18). -/
  specialConfigs : Nat
  /-- `SOUND_REGS`: as many as `soundSel` names (R24, R25). -/
  soundRegs : Nat
deriving DecidableEq, Repr

/-- The length of a transaction word in bits: `{KIND[1:0], PORT, DATA}` (R60, R72). -/
def Sizes.wordWidth (z : Sizes) : Nat :=
  2 + z.portWidth + z.dataWidth

/-- The parameters a model of the block takes as arguments (R5). The decoder, every shared operation and the machine of
Machine/Build.lean take them; `Machine.exec` and `Machine.step` are the machine built with `Machine.hardware`. -/
structure Params where
  /-- `PORT_WIDTH` to `SOUND_REGS`. -/
  sizes : Sizes
  /-- `P_PRI_MASK`, `P_PRI_MATCH` (D2). -/
  primary : PortPattern
  /-- `P_SEC_MASK`, `P_SEC_MATCH` (D3). -/
  secondary : PortPattern
  /-- `P_SND_SEL_MASK`, `P_SND_SEL_MATCH` (D4). -/
  sndSel : PortPattern
  /-- `P_SND_DAT_MASK`, `P_SND_DAT_MATCH` (D4). -/
  sndDat : PortPattern
  /-- `P_TAPE_BIT`: the bit of the keyboard read that the overlay goes into (D8). -/
  tapeBit : Fin 8
  /-- `P_EAR_DEFAULT_INVERT`: whether the default overlay is the complement of bit 4 of the latch (D8). -/
  earDefaultInvert : Bool
  /-- `P_AUX_GATED`: whether the lock also gates the two aux bits (D9). -/
  auxGated : Bool
  /-- `P_SND_PENALTY`: the cycles a sound select or write costs the CPU (R148). -/
  sndPenalty : Nat
  /-- `P_FLOAT`: the floating-bus sentinel (R129). -/
  floating : Byte
  /-- `P_JOY_ABSENT`: what a joystick-claimed read returns with no joystick (D6). -/
  joyAbsent : Byte
  /-- `P_SND_READBACK`: what the sound device returns for a register index and its stored byte (D12). -/
  sndReadback : BitVec 4 → Byte → Byte
  /-- `P_SPECIAL_TABLE`: the memory collaborator's four layouts (D21). -/
  specialTable : Vector SpecialLayout 4
  /-- `P_PAGED_WINDOW`: where the paged RAM bank lies (D22). -/
  pagedWindow : PagedWindow

namespace Config

/-- `P_SPECIAL_TABLE`, which D21 leaves OPEN: a free value, of which nothing is known. -/
opaque specialTable : Vector SpecialLayout 4

/-- `P_PAGED_WINDOW`, which D22 leaves OPEN: a free value, of which nothing is known. -/
opaque pagedWindow : PagedWindow

end Config

end Sys2Proof
end

