-- ==== Sys2Proof/Machine/Operands.lean ====
section
/-!
DEFINITION. What a transaction's operands mean before any state is read: this hardware's parameters (spec 00_scope.md
rule R5), the Bit/Mask Decoder (40_decoder.md rules R80 to R91) and the row, mask and bit operations of the composite
keyboard read (42_port_read.md rules R124 to R127). Everything here is a pure function of its operands (R91).
-/

namespace Sys2Proof.Machine

/-- The block as built "for this hardware": the default column of R5. The four port patterns and the tape bit are the
spec's general-knowledge defaults, PRESUMED (log entries 6 and 7). -/
def hardware : Params where
  sizes := {
    portWidth := 16, dataWidth := 8, ramBanks := 8, bankSize := 16384, romBanks := 4, specialConfigs := 4,
    soundRegs := 16 }
  primary := ⟨0xC002, 0x4000⟩
  secondary := ⟨0xF002, 0x1000⟩
  sndSel := ⟨0xC002, 0xC000⟩
  sndDat := ⟨0xC002, 0x8000⟩
  tapeBit := 6
  earDefaultInvert := true
  auxGated := true
  sndPenalty := 3
  floating := 0xFF
  joyAbsent := 0xFF
  sndReadback := fun _ stored => stored
  specialTable := Config.specialTable
  pagedWindow := Config.pagedWindow

/-! ## Bit/Mask Decoder -/

/-- `Match(port, mask, pattern)` (R80). -/
def matchPort (port : Port) (p : PortPattern) : Bool :=
  (port &&& p.mask) == p.pattern

/-- `BitReset(port, n)` for a bit index `n` from 0 to 15 (R81). -/
def bitReset (port : Port) (n : Nat) : Bool :=
  !port.getLsbD n

/-- `JoystickClaim(port)`, the expression the source gives (R82). -/
def joystickClaim (port : Port) : Bool :=
  ((port &&& 0xE0) == 0) || ((port &&& 0x20) == 0)

/-- `IsEven(port)` (R83). -/
def isEven (port : Port) : Bool :=
  bitReset port 0

/-- `PrimaryPaging(port)` (R84). -/
def primaryPaging (c : Params) (port : Port) : Bool :=
  matchPort port c.primary

/-- `SecondaryPaging(port)` (R85). -/
def secondaryPaging (c : Params) (port : Port) : Bool :=
  matchPort port c.secondary

/-- `PagingPort(port)` (R86). -/
def pagingPort (c : Params) (port : Port) : Bool :=
  primaryPaging c port || secondaryPaging c port

/-- `SoundSelect(port)` (R87). -/
def soundSelect (c : Params) (port : Port) : Bool :=
  matchPort port c.sndSel

/-- `SoundData(port)` (R88). -/
def soundData (c : Params) (port : Port) : Bool :=
  matchPort port c.sndDat

/-- `SoundActivation(port)` (R89). -/
def soundActivation (c : Params) (port : Port) : Bool :=
  soundSelect c port || soundData c port

/-- `RowSelected(port, i)`: half-row `i` is selected by port bit `8 + i` being 0 (R90, D7). -/
def rowSelected (port : Port) (i : Fin 8) : Bool :=
  bitReset port (8 + i)

/-! ## The composite keyboard read's bit operations -/

/-- The eight half-rows in index order (R124). -/
def halfRows : List (Fin 8) := [0, 1, 2, 3, 4, 5, 6, 7]

/-- The AND of the selected half-rows, from 0xFF (R124, D26). -/
def rowAnd (rows : Vector Byte 8) (port : Port) : Byte :=
  halfRows.foldl (fun acc i => if rowSelected port i then acc &&& rows[i] else acc) 0xFF

/-- Keep bits 4 to 0, set bits 7 and 5, clear bit 6 (R125). -/
def maskAndForce (acc : Byte) : Byte :=
  (acc &&& 0x1F) ||| 0xA0

/-- `v[n] <- b` (R126, R127). -/
def setBit (v : Byte) (n : Fin 8) (b : Bool) : Byte :=
  if b then v ||| (1#8 <<< n.val) else v &&& ~~~(1#8 <<< n.val)

end Sys2Proof.Machine
end

