-- ==== Sys2Proof/Machine/State.lean ====
section
/-!
DEFINITION. The state of the block (spec 10_state.md, summary in its section 8), what passes in and out of it (inputs
R27, events R28, requests 44_host.md R163), the state after a power-on (70_reset_and_hazards.md R180), and the reasons a
step could stop. All of it is plain data.
-/

namespace Sys2Proof.Machine

/-! ## Why a step stops -/

/-- The faults that stop the machine: there are none, so this type has no constructor and no meaning can raise one.
No transaction raises an exception (R170), and the one contract slip the spec calls a fault sets the sticky mark
`State.romIndexInSpecialMode` while the session goes on (R172). Safe: nothing the spec gives an effect to stops here. -/
inductive Fault
deriving DecidableEq, Repr

/-- The refusals. -/
inductive Refusal where
  /-- Raised by an arm of `exec` whose instruction has no meaning yet; no arm does. Safe: the run ends there. -/
  | notModelled (mnemonic : String)
deriving DecidableEq, Repr

/-! ## Inputs, events, host calls -/

/-- The external inputs a transaction samples (R27). Each is free: nothing here constrains a value (R164, R166). -/
structure Inputs where
  /-- `in.joyPresent`: a joystick is active in the device registry. -/
  joyPresent : Bool
  /-- `in.joyLine`: the joystick's line state. -/
  joyLine : Byte
  /-- `in.keyRow[0..7]`: the keyboard half-row line states. -/
  keyRow : Vector Byte 8
  /-- `in.tapeActive`: tape playback is active. -/
  tapeActive : Bool
  /-- `in.earSample`: the tape device's answer for the ear bit at `cycle` (R166, R189). -/
  earSample : Bool
  /-- `in.cycle`: the CPU's cycle count after the `Notify` of this transaction (R121). -/
  cycle : Nat
  /-- `in.frameCycle`: the timing position handed to `FlushBorderBuffer` (R144). -/
  frameCycle : Nat
deriving DecidableEq, Repr

/-- The output events (R28). -/
inductive Event where
  /-- To bus contention (R121, R141). -/
  | notify (port : Port)
  /-- To the video collaborator (R144). -/
  | flushBorderBuffer (frameCycle : Nat)
  /-- To the audio / tape output (R145). -/
  | buzzer (ear : Bool)
  /-- To the audio collaborator (R146). -/
  | soundSelect (index : BitVec 4)
  /-- To the audio collaborator (R147). -/
  | soundWrite (index : BitVec 4) (value : Byte)
  /-- To the CPU's cycle counter (R148). -/
  | cyclePenalty (cycles : Nat)
deriving DecidableEq, Repr

/-- The flat snapshot record of R160. The host hands records over as numbers, so that one with a field outside its
width exists and can be refused (R161). -/
structure SnapshotRecord where
  ramBank : Nat
  romLow : Nat
  romHigh : Nat
  shadowScreenSelected : Nat
  pagingPermanentlyDisabled : Nat
  specialPagingMode : Nat
  pagingConfiguration : Nat
  diskMotorOn : Nat
  printerStrobe : Nat
  lastUlaOutByte : Nat
deriving DecidableEq, Repr

/-- The accessors of the memory and video collaborators (R29, R106 to R110). -/
inductive Accessor where
  | currentRamPageIndex
  | currentRomPageIndex
  | isShadowScreenSelected
  | isSpecialPagingMode
  | currentPagingConfiguration
  | diskMotorOn
  | printerStrobe
deriving DecidableEq, Repr

/-- What the host may do between transactions (44_host.md R160, R161, R165, R163). -/
inductive HostCall where
  | snapshotGet
  | snapshotSet (record : SnapshotRecord)
  | clearInputRead
  | ask (accessor : Accessor)
deriving DecidableEq, Repr

/-- One thing asked of the block: a transaction with the inputs sampled for it (R6), or a host call. -/
inductive Request where
  | transaction (word : TxWord) (inputs : Inputs)
  | host (call : HostCall)
deriving DecidableEq, Repr

/-- What the last step returned to its caller. -/
inductive Reply where
  /-- Nothing: a write, a reset, a call that returns nothing, or an idle step. -/
  | none
  /-- The byte of a `ReadPort` (R6). -/
  | byte (v : Byte)
  /-- The record of a `SnapshotGet` (R160). -/
  | snapshot (record : SnapshotRecord)
  /-- The `SnapshotSet` was refused; the state is unchanged and this records the refusal (R161). -/
  | restoreRefused
  /-- `CurrentRamPageIndex()` (R106). -/
  | ramPage (index : BitVec 3)
  /-- `CurrentRomPageIndex()` (R107). -/
  | romPage (index : BitVec 2)
  /-- `CurrentPagingConfiguration()` (R109). -/
  | configuration (index : BitVec 2)
  /-- A Boolean accessor (R108 to R110). -/
  | flag (b : Bool)
deriving DecidableEq, Repr

/-! ## State -/

/-- PagingState, owned by the Paging Controller (10_state.md section 2). -/
structure PagingState where
  /-- R11. -/
  ramBank : BitVec 3
  /-- R12. -/
  romLow : BitVec 1
  /-- R13. -/
  romHigh : BitVec 1
  /-- R15. -/
  shadowScreenSelected : Bool
  /-- The lock (R16). -/
  pagingPermanentlyDisabled : Bool
  /-- R17. -/
  specialPagingMode : Bool
  /-- R18. -/
  pagingConfiguration : BitVec 2
  /-- R19. -/
  diskMotorOn : Bool
  /-- R20. -/
  printerStrobe : Bool
deriving DecidableEq, Repr

/-- The whole state: the spec's fields, then the model's own four, which carry what R6 passes into and out of a
step (log entries 1 to 4). -/
structure State where
  /-- PagingState (R11 to R20). -/
  paging : PagingState
  /-- The UlaOutputLatch (R21). -/
  lastUlaOut : Byte
  /-- The "last input was read" flag (R23). -/
  inputRead : Bool
  /-- The sound device's selected register index (R24). -/
  soundSel : BitVec 4
  /-- The sound-register file (R25). -/
  soundReg : Vector Byte 16
  /-- The sticky fault mark `RomIndexInSpecialMode` (R172). -/
  romIndexInSpecialMode : Bool
  /-- The model's own: the inputs sampled for the transaction being run (R27). -/
  inputs : Inputs
  /-- The model's own: what the last step returned. -/
  reply : Reply
  /-- The model's own: the events of the last step, in order (R28). -/
  events : List Event
  /-- The model's own: what the CPU and the host have asked for and the block has not yet done, oldest first. -/
  pending : List Request
deriving DecidableEq, Repr

/-! ## Reset -/

/-- PagingState at power-on: all flags false, all selectors 0 (R180). -/
def PagingState.reset : PagingState where
  ramBank := 0
  romLow := 0
  romHigh := 0
  shadowScreenSelected := false
  pagingPermanentlyDisabled := false
  specialPagingMode := false
  pagingConfiguration := 0
  diskMotorOn := false
  printerStrobe := false

/-- The lines before any transaction: no key line low, no joystick, no tape, counts 0. DESIGN CHOICE (log entry 3):
the spec leaves every input free, and no meaning reads these before a transaction brings its own. -/
def Inputs.quiet : Inputs where
  joyPresent := false
  joyLine := 0xFF
  keyRow := Vector.replicate 8 0xFF
  tapeActive := false
  earSample := false
  cycle := 0
  frameCycle := 0

/-- The machine right after a power-on (R180), with nothing asked of it yet. -/
def State.reset : State where
  paging := PagingState.reset
  lastUlaOut := 0x00
  inputRead := false
  soundSel := 0
  soundReg := Vector.replicate 16 0x00
  romIndexInSpecialMode := false
  inputs := Inputs.quiet
  reply := .none
  events := []
  pending := []

end Sys2Proof.Machine
end

