-- ==== Sys2Proof/Machine/Ops.lean ====
section
/-!
DEFINITION. The named operations over the state that every meaning is built from: the start of an access (spec
42_port_read.md R121, R122; 43_port_write.md R141), the events and the reply, the writes of each piece of state, the
fault mark (60_exceptions.md R172), and taking the next request. The block has no exception entry and no return from
one (R170): `raiseRomIndexFault` is the whole of its fault handling.
-/

namespace Sys2Proof.Machine

/-- What a meaning answers. -/
abbrev Result := Host.Outcome State Fault Refusal

/-! ## The start of an access -/

/-- The first two lines of `ReadPort` (R120): `Notify(port)` before any dispatch (R121), and the flag (R122). -/
def beginRead (port : Port) (s : State) : State :=
  { s with inputRead := true, reply := .none, events := [.notify port] }

/-- The first line of `WritePort` (R140, R141). It leaves the flag alone (R150). -/
def beginWrite (port : Port) (s : State) : State :=
  { s with reply := .none, events := [.notify port] }

/-- The start of what returns nothing and emits nothing. -/
def beginSilent (s : State) : State :=
  { s with reply := .none, events := [] }

/-! ## Output -/

/-- `emit E(args)`: appends to the step's event list (00_scope.md section 4). -/
def emit (e : Event) (s : State) : State :=
  { s with events := s.events ++ [e] }

/-- What the step returns to its caller. -/
def setReply (r : Reply) (s : State) : State :=
  { s with reply := r }

/-- `return v` of a `ReadPort` (00_scope.md section 4). -/
def answer (v : Byte) (s : State) : State :=
  setReply (.byte v) s

/-! ## Writes of state -/

/-- Replaces PagingState. -/
def setPaging (p : PagingState) (s : State) : State :=
  { s with paging := p }

/-- Writes the UlaOutputLatch (R21). -/
def setLastUlaOut (v : Byte) (s : State) : State :=
  { s with lastUlaOut := v }

/-- Writes the "last input was read" flag (R23). -/
def setInputRead (b : Bool) (s : State) : State :=
  { s with inputRead := b }

/-- Writes the selected register index (R24). -/
def setSoundSel (i : BitVec 4) (s : State) : State :=
  { s with soundSel := i }

/-- `soundReg[soundSel]` (R25). -/
def selectedSoundReg (s : State) : Byte :=
  s.soundReg[s.soundSel.toNat]'(s.soundSel.isLt)

/-- `soundReg[soundSel] <- v` (R25). -/
def writeSelectedSoundReg (v : Byte) (s : State) : State :=
  { s with soundReg := s.soundReg.set s.soundSel.toNat v s.soundSel.isLt }

/-- `raise Fault(RomIndexInSpecialMode)`: sets the sticky mark, and the session goes on (R172). -/
def raiseRomIndexFault (s : State) : State :=
  { s with romIndexInSpecialMode := true }

/-! ## Requests -/

/-- Takes the oldest request off the queue. -/
def dequeue (rest : List Request) (s : State) : State :=
  { s with pending := rest }

/-- Takes a transaction: its inputs are the ones sampled for it, and no earlier ones stay (R27, R164). -/
def accept (inputs : Inputs) (rest : List Request) (s : State) : State :=
  { s with inputs := inputs, pending := rest }

end Sys2Proof.Machine
end

