-- ==== Sys2Proof/Machine/Flags.lean ====
section
/-!
DEFINITION. The fields of a data byte and of the state that the meanings test or copy: the data layouts of spec
30_encoding.md rules R66 to R69, the latched border colour (10_state.md R22), the ROM bank (R14) and the overlay bit of
the keyboard read (42_port_read.md R126, R127). The block has no condition flags.
-/

namespace Sys2Proof.Machine

/-! ## Primary paging-control port data (R66) -/

/-- `RAM` = DATA[2:0]. -/
def ramField (v : Byte) : BitVec 3 :=
  v.extractLsb' 0 3

/-- `SHADOW` = DATA[3]. -/
def shadowField (v : Byte) : Bool :=
  v.getLsbD 3

/-- `ROMLO` = DATA[4]. -/
def romLowField (v : Byte) : BitVec 1 :=
  v.extractLsb' 4 1

/-- `LOCK` = DATA[5]. -/
def lockField (v : Byte) : Bool :=
  v.getLsbD 5

/-! ## Secondary paging-control port data (R67) -/

/-- `SPECIAL` = DATA[0]. -/
def specialField (v : Byte) : Bool :=
  v.getLsbD 0

/-- `CFG` = DATA[2:1], bit 1 low and bit 2 high. -/
def configurationField (v : Byte) : BitVec 2 :=
  v.extractLsb' 1 2

/-- `ROMHI` = DATA[2]. -/
def romHighField (v : Byte) : BitVec 1 :=
  v.extractLsb' 2 1

/-- `MOTOR` = DATA[3]. -/
def motorField (v : Byte) : Bool :=
  v.getLsbD 3

/-- `PRINTER` = DATA[4]. -/
def printerField (v : Byte) : Bool :=
  v.getLsbD 4

/-! ## ULA and sound data (R68, R69) -/

/-- `BORDER` = DATA[2:0] of a ULA write, and of the latch. -/
def borderField (v : Byte) : BitVec 3 :=
  v.extractLsb' 0 3

/-- `EAR` = DATA[4] of a ULA write, and of the latch. -/
def earField (v : Byte) : Bool :=
  v.getLsbD 4

/-- The register index of a sound select: DATA[3:0]. -/
def soundIndexField (v : Byte) : BitVec 4 :=
  v.extractLsb' 0 4

/-! ## Views of the state -/

/-- The latched border colour, `lastUlaOut[2:0]` (R22, D10). -/
def latchedBorder (s : State) : BitVec 3 :=
  borderField s.lastUlaOut

/-- The ROM bank `{romHigh, romLow}` (R14). -/
def romBank (p : PagingState) : BitVec 2 :=
  p.romHigh ++ p.romLow

/-- The overlay bit when the tape is inactive (R127). -/
def defaultOverlay (c : Params) (s : State) : Bool :=
  if c.earDefaultInvert then !earField s.lastUlaOut else earField s.lastUlaOut

/-- The overlay bit of a keyboard read: the tape's ear bit when the tape is active (R126), else the default (R127). -/
def overlay (c : Params) (s : State) : Bool :=
  if s.inputs.tapeActive then s.inputs.earSample else defaultOverlay c s

end Sys2Proof.Machine
end

