-- ==== Sys2Proof/Machine/Paging.lean ====
section
/-!
DEFINITION. The Paging Controller (spec 41_paging.md): the writes of its two ports, the lock that gates them, the
meanings of `OUT_PAGE_PRI` and `OUT_PAGE_SEC`, the page-index outputs (R106 to R110) and the layout the memory
collaborator resolves from them (R111, 20_memory.md R42).
-/

namespace Sys2Proof.Machine

/-! ## Writes -/

/-- `PrimaryWrite(value)` (R101). -/
def primaryWrite (v : Byte) (p : PagingState) : PagingState :=
  { p with
    ramBank := ramField v
    shadowScreenSelected := shadowField v
    romLow := romLowField v
    pagingPermanentlyDisabled := p.pagingPermanentlyDisabled || lockField v }

/-- `SecondaryAuxWrite(value)` (R104). -/
def secondaryAuxWrite (v : Byte) (p : PagingState) : PagingState :=
  { p with diskMotorOn := motorField v, printerStrobe := printerField v }

/-- `SecondaryWrite(value)`: special mode when bit 0 is 1 (R103), normal mode when it is 0 (R102), and the aux bits
in both (R104). -/
def secondaryWrite (v : Byte) (p : PagingState) : PagingState :=
  if specialField v then
    secondaryAuxWrite v { p with pagingConfiguration := configurationField v, specialPagingMode := true }
  else
    secondaryAuxWrite v { p with romHigh := romHighField v, specialPagingMode := false }

/-- A primary-port write behind the lock (R100): ignored while the lock is set. -/
def gatedPrimaryWrite (v : Byte) (p : PagingState) : PagingState :=
  if p.pagingPermanentlyDisabled then p else primaryWrite v p

/-- A secondary-port write behind the lock (R100): while the lock is set it is ignored, or, in the variant whose aux
bits are not gated, writes them and nothing else (D9). -/
def gatedSecondaryWrite (c : Params) (v : Byte) (p : PagingState) : PagingState :=
  if p.pagingPermanentlyDisabled then
    if c.auxGated then p else secondaryAuxWrite v p
  else secondaryWrite v p

/-- `OnPagingControlPortWrite(port, value)`, line by line as R100 gives it. -/
def onPagingControlPortWrite (c : Params) (port : Port) (v : Byte) (p : PagingState) : PagingState :=
  if p.pagingPermanentlyDisabled then
    if secondaryPaging c port && !primaryPaging c port && !c.auxGated then secondaryAuxWrite v p else p
  else if primaryPaging c port then primaryWrite v p
  else secondaryWrite v p

/-! ## Meanings -/

/-- `OUT_PAGE_PRI` for any parameters (R100, R101, R142). -/
def outPagePriFor (_c : Params) (port : Port) (data : Byte) (s : State) : Result :=
  .next (setPaging (gatedPrimaryWrite data s.paging) (beginWrite port s))

/-- `OUT_PAGE_SEC` for any parameters (R100, R102 to R104, R142). -/
def outPageSecFor (c : Params) (port : Port) (data : Byte) (s : State) : Result :=
  .next (setPaging (gatedSecondaryWrite c data s.paging) (beginWrite port s))

/-- `OUT_PAGE_PRI`. -/
def execOutPagePri (port : Port) (data : Byte) (s : State) : Result :=
  outPagePriFor hardware port data s

/-- `OUT_PAGE_SEC`. -/
def execOutPageSec (port : Port) (data : Byte) (s : State) : Result :=
  outPageSecFor hardware port data s

/-! ## Page-index outputs -/

/-- `CurrentRamPageIndex()`, whatever the mode (R106). -/
def currentRamPageIndex (s : State) : BitVec 3 :=
  s.paging.ramBank

/-- The value `CurrentRomPageIndex()` returns: the ROM bank, or the fallback 0 in special mode (R107). -/
def romPageIndexValue (s : State) : BitVec 2 :=
  if s.paging.specialPagingMode then 0 else romBank s.paging

/-- What asking `CurrentRomPageIndex()` does to the state: in special mode it raises the fault mark (R107). -/
def currentRomPageIndex (s : State) : State :=
  if s.paging.specialPagingMode then raiseRomIndexFault s else s

/-- `IsShadowScreenSelected()` (R108). -/
def isShadowScreenSelected (s : State) : Bool :=
  s.paging.shadowScreenSelected

/-- `IsSpecialPagingMode()` (R109). -/
def isSpecialPagingMode (s : State) : Bool :=
  s.paging.specialPagingMode

/-- `CurrentPagingConfiguration()`, whatever the mode (R109). -/
def currentPagingConfiguration (s : State) : BitVec 2 :=
  s.paging.pagingConfiguration

/-- `DiskMotorOn()` (R110). -/
def diskMotorOn (s : State) : Bool :=
  s.paging.diskMotorOn

/-- `PrinterStrobe()` (R110). -/
def printerStrobe (s : State) : Bool :=
  s.paging.printerStrobe

/-! ## The memory collaborator's resolution -/

/-- What the memory collaborator resolves the signals to (R111). -/
inductive MemoryLayout where
  /-- Special mode: an entry of `P_SPECIAL_TABLE`. -/
  | special (layout : SpecialLayout)
  /-- Normal mode: the ROM bank, and the RAM bank in the paged window. The ROM bank has no place here: DESIGN CHOICE (log
  entry 35). -/
  | normal (romBank : BitVec 2) (ramBank : BitVec 3) (window : PagedWindow)
deriving DecidableEq, Repr

/-- The layout of R111. It asks for the mode first, so it never meets the fault of R107. -/
def memoryLayout (c : Params) (s : State) : MemoryLayout :=
  if isSpecialPagingMode s then
    .special (c.specialTable[(currentPagingConfiguration s).toNat]'((currentPagingConfiguration s).isLt))
  else .normal (romPageIndexValue s) (currentRamPageIndex s) c.pagedWindow

/-- In normal mode, the RAM segment and the offset in it that a logical address of the paged window names (R42).
DEDUCED (log entry 14): the segment is mapped byte for byte into the window. -/
def pagedWindowByte (c : Params) (s : State) (addr : Nat) : Option (BitVec 3 × Nat) :=
  match memoryLayout c s with
  | .special _ => none
  | .normal _ ram window =>
    if window.first ≤ addr ∧ addr < window.first + c.sizes.bankSize then some (ram, addr - window.first) else none

end Sys2Proof.Machine
end

