-- ==== Sys2Proof/Machine/Read.lean ====
section
/-!
DEFINITION. The read classes (spec 42_port_read.md): the four device reads and the meaning of each `IN_*` class. Each
meaning is `ReadPort` (R120) along the one branch its class stands for, for any parameters and then for this hardware's.
-/

namespace Sys2Proof.Machine

/-! ## Device reads -/

/-- `ReadJoystick()` (R123, D6). -/
def readJoystick (c : Params) (s : State) : Byte :=
  if s.inputs.joyPresent then s.inputs.joyLine else c.joyAbsent

/-- `ReadKeyboard(port)` (R124 to R127). -/
def readKeyboard (c : Params) (port : Port) (s : State) : Byte :=
  setBit (maskAndForce (rowAnd s.inputs.keyRow port)) c.tapeBit (overlay c s)

/-- `ReadSound()` (R128, D12). -/
def readSound (c : Params) (s : State) : Byte :=
  c.sndReadback s.soundSel (selectedSoundReg s)

/-- The floating-bus read (R129). -/
def readFloating (c : Params) : Byte :=
  c.floating

/-! ## Meanings -/

/-- `IN_JOYSTICK` for any parameters (R123). -/
def inJoystickFor (c : Params) (port : Port) (s : State) : Result :=
  .next (answer (readJoystick c s) (beginRead port s))

/-- `IN_KEYBOARD` for any parameters (R124 to R127). -/
def inKeyboardFor (c : Params) (port : Port) (s : State) : Result :=
  .next (answer (readKeyboard c port s) (beginRead port s))

/-- `IN_SOUND_A` for any parameters (R128). -/
def inSoundAFor (c : Params) (port : Port) (s : State) : Result :=
  .next (answer (readSound c s) (beginRead port s))

/-- `IN_SOUND_B` for any parameters (R128). -/
def inSoundBFor (c : Params) (port : Port) (s : State) : Result :=
  .next (answer (readSound c s) (beginRead port s))

/-- `IN_FLOATING` for any parameters (R129). -/
def inFloatingFor (c : Params) (port : Port) (s : State) : Result :=
  .next (answer (readFloating c) (beginRead port s))

/-- `IN_JOYSTICK`. -/
def execInJoystick (port : Port) (s : State) : Result :=
  inJoystickFor hardware port s

/-- `IN_KEYBOARD`. -/
def execInKeyboard (port : Port) (s : State) : Result :=
  inKeyboardFor hardware port s

/-- `IN_SOUND_A`. -/
def execInSoundA (port : Port) (s : State) : Result :=
  inSoundAFor hardware port s

/-- `IN_SOUND_B`. -/
def execInSoundB (port : Port) (s : State) : Result :=
  inSoundBFor hardware port s

/-- `IN_FLOATING`. -/
def execInFloating (port : Port) (s : State) : Result :=
  inFloatingFor hardware port s

end Sys2Proof.Machine
end

