-- ==== Sys2Proof/Machine/Reset.lean ====
section
/-!
DEFINITION. The two resets (spec 70_reset_and_hazards.md R180 to R182). A reset is itself a transaction: it leaves the
queue of later requests alone, and it emits nothing and returns nothing.
-/

namespace Sys2Proof.Machine

/-- Power-on reset: every field at its power-on value, the lock and the fault mark cleared (R180). -/
def powerOnReset (s : State) : State :=
  { State.reset with inputs := s.inputs, pending := s.pending }

/-- Soft reset: what a power-on does, but the lock and the fault mark keep their values (R181, R182). -/
def softReset (s : State) : State :=
  { powerOnReset s with
    paging := { PagingState.reset with pagingPermanentlyDisabled := s.paging.pagingPermanentlyDisabled }
    romIndexInSpecialMode := s.romIndexInSpecialMode }

/-- `RESET_POWERON` (R180). -/
def execResetPoweron (s : State) : Result :=
  .next (powerOnReset s)

/-- `RESET_SOFT` (R181). -/
def execResetSoft (s : State) : Result :=
  .next (softReset s)

end Sys2Proof.Machine
end

