-- ==== Sys2Proof/Machine/Write.lean ====
section
/-!
DEFINITION. The write classes other than paging (spec 43_port_write.md): the ULA write (R143 to R145), the two sound
writes (R146 to R148) and the absorbed write (R149). Each meaning is `WritePort` (R140) along the one branch its class
stands for; the order of updates and events is that of 70_reset_and_hazards.md R185.
-/

namespace Sys2Proof.Machine

/-! ## Device writes -/

/-- The border flush: emitted when the new colour differs from the latched one, before the latch is written (R144). -/
def flushOnColourChange (v : Byte) (s : State) : State :=
  if borderField v ≠ latchedBorder s then emit (.flushBorderBuffer s.inputs.frameCycle) s else s

/-- `UlaWrite(value)` (R143 to R145). -/
def ulaWrite (v : Byte) (s : State) : State :=
  emit (.buzzer (earField v)) (setLastUlaOut v (flushOnColourChange v s))

/-- `SoundSelectWrite(value)` (R146, R148). -/
def soundSelectWrite (c : Params) (v : Byte) (s : State) : State :=
  emit (.cyclePenalty c.sndPenalty)
    (emit (.soundSelect (soundIndexField v)) (setSoundSel (soundIndexField v) s))

/-- `SoundDataWrite(value)` (R147, R148). -/
def soundDataWrite (c : Params) (v : Byte) (s : State) : State :=
  emit (.cyclePenalty c.sndPenalty)
    (emit (.soundWrite s.soundSel v) (writeSelectedSoundReg v s))

/-! ## Meanings -/

/-- `OUT_ULA` for any parameters (R143 to R145). -/
def outUlaFor (_c : Params) (port : Port) (data : Byte) (s : State) : Result :=
  .next (ulaWrite data (beginWrite port s))

/-- `OUT_SND_SEL` for any parameters (R146, R148). -/
def outSndSelFor (c : Params) (port : Port) (data : Byte) (s : State) : Result :=
  .next (soundSelectWrite c data (beginWrite port s))

/-- `OUT_SND_DAT` for any parameters (R147, R148). -/
def outSndDatFor (c : Params) (port : Port) (data : Byte) (s : State) : Result :=
  .next (soundDataWrite c data (beginWrite port s))

/-- `OUT_ABSORBED`: nothing after the `Notify`; the written byte goes nowhere, for any parameters (R149). -/
def outAbsorbedFor (_c : Params) (port : Port) (_data : Byte) (s : State) : Result :=
  .next (beginWrite port s)

/-- `OUT_ULA`. -/
def execOutUla (port : Port) (data : Byte) (s : State) : Result :=
  outUlaFor hardware port data s

/-- `OUT_SND_SEL`. -/
def execOutSndSel (port : Port) (data : Byte) (s : State) : Result :=
  outSndSelFor hardware port data s

/-- `OUT_SND_DAT`. -/
def execOutSndDat (port : Port) (data : Byte) (s : State) : Result :=
  outSndDatFor hardware port data s

/-- `OUT_ABSORBED`. -/
def execOutAbsorbed (port : Port) (data : Byte) (s : State) : Result :=
  outAbsorbedFor hardware port data s

end Sys2Proof.Machine
end

