-- ==== Sys2Proof/Syntax.lean ====
section
/-!
DEFINITION. The thirteen transaction classes of spec/opcode_table.json, the block's "instructions" (spec
30_encoding.md). A transaction word carries `KIND`, `PORT` and `DATA` (R60). A read class has the port as its operand,
a write class the port and the byte written, and a reset none: the fields a class ignores (R62, R63) are no operands.
-/

namespace Sys2Proof

/-- The decoder's verdict on a transaction word, one constructor per row of the opcode table. -/
inductive Instr where
  /-- `IN_JOYSTICK` (R123). -/
  | inJoystick (port : Port)
  /-- `IN_KEYBOARD` (R124 to R127). -/
  | inKeyboard (port : Port)
  /-- `IN_SOUND_A`: a read at a select-pattern address (R128). -/
  | inSoundA (port : Port)
  /-- `IN_SOUND_B`: a read at a data-pattern address (R128). -/
  | inSoundB (port : Port)
  /-- `IN_FLOATING` (R129). -/
  | inFloating (port : Port)
  /-- `OUT_PAGE_PRI` (R100, R101). -/
  | outPagePri (port : Port) (data : Byte)
  /-- `OUT_PAGE_SEC` (R100, R102 to R104). -/
  | outPageSec (port : Port) (data : Byte)
  /-- `OUT_ULA` (R143 to R145). -/
  | outUla (port : Port) (data : Byte)
  /-- `OUT_SND_SEL` (R146). -/
  | outSndSel (port : Port) (data : Byte)
  /-- `OUT_SND_DAT` (R147). -/
  | outSndDat (port : Port) (data : Byte)
  /-- `OUT_ABSORBED` (R149). -/
  | outAbsorbed (port : Port) (data : Byte)
  /-- `RESET_POWERON` (R180). -/
  | resetPoweron
  /-- `RESET_SOFT` (R181). -/
  | resetSoft
deriving DecidableEq, Repr

/-- The class's `KIND` (R61). -/
def Instr.kind : Instr → BitVec 2
  | .inJoystick _ => 0b00#2
  | .inKeyboard _ => 0b00#2
  | .inSoundA _ => 0b00#2
  | .inSoundB _ => 0b00#2
  | .inFloating _ => 0b00#2
  | .outPagePri _ _ => 0b01#2
  | .outPageSec _ _ => 0b01#2
  | .outUla _ _ => 0b01#2
  | .outSndSel _ _ => 0b01#2
  | .outSndDat _ _ => 0b01#2
  | .outAbsorbed _ _ => 0b01#2
  | .resetPoweron => 0b10#2
  | .resetSoft => 0b11#2

/-- The class's port operand; a reset has none, and its canonical `PORT` is 0 (R62). -/
def Instr.port : Instr → Port
  | .inJoystick port => port
  | .inKeyboard port => port
  | .inSoundA port => port
  | .inSoundB port => port
  | .inFloating port => port
  | .outPagePri port _ => port
  | .outPageSec port _ => port
  | .outUla port _ => port
  | .outSndSel port _ => port
  | .outSndDat port _ => port
  | .outAbsorbed port _ => port
  | .resetPoweron => 0
  | .resetSoft => 0

/-- The class's data operand; a read and a reset have none, and their canonical `DATA` is 0 (R63). -/
def Instr.data : Instr → Byte
  | .inJoystick _ => 0
  | .inKeyboard _ => 0
  | .inSoundA _ => 0
  | .inSoundB _ => 0
  | .inFloating _ => 0
  | .outPagePri _ data => data
  | .outPageSec _ data => data
  | .outUla _ data => data
  | .outSndSel _ data => data
  | .outSndDat _ data => data
  | .outAbsorbed _ data => data
  | .resetPoweron => 0
  | .resetSoft => 0

/-- The class's mnemonic in the opcode table. -/
def Instr.mnemonic : Instr → String
  | .inJoystick _ => "IN_JOYSTICK"
  | .inKeyboard _ => "IN_KEYBOARD"
  | .inSoundA _ => "IN_SOUND_A"
  | .inSoundB _ => "IN_SOUND_B"
  | .inFloating _ => "IN_FLOATING"
  | .outPagePri _ _ => "OUT_PAGE_PRI"
  | .outPageSec _ _ => "OUT_PAGE_SEC"
  | .outUla _ _ => "OUT_ULA"
  | .outSndSel _ _ => "OUT_SND_SEL"
  | .outSndDat _ _ => "OUT_SND_DAT"
  | .outAbsorbed _ _ => "OUT_ABSORBED"
  | .resetPoweron => "RESET_POWERON"
  | .resetSoft => "RESET_SOFT"

end Sys2Proof
end

