-- ==== Sys2Proof/Machine/Dispatch.lean ====
section
/-!
DEFINITION. One arm per transaction class: each calls its meaning.
-/

namespace Sys2Proof.Machine

def exec (i : Instr) (s : State) : Host.Outcome State Fault Refusal :=
  match i with
  | .inJoystick port => Sys2Proof.Machine.execInJoystick port s
  | .inKeyboard port => Sys2Proof.Machine.execInKeyboard port s
  | .inSoundA port => Sys2Proof.Machine.execInSoundA port s
  | .inSoundB port => Sys2Proof.Machine.execInSoundB port s
  | .inFloating port => Sys2Proof.Machine.execInFloating port s
  | .outPagePri port data => Sys2Proof.Machine.execOutPagePri port data s
  | .outPageSec port data => Sys2Proof.Machine.execOutPageSec port data s
  | .outUla port data => Sys2Proof.Machine.execOutUla port data s
  | .outSndSel port data => Sys2Proof.Machine.execOutSndSel port data s
  | .outSndDat port data => Sys2Proof.Machine.execOutSndDat port data s
  | .outAbsorbed port data => Sys2Proof.Machine.execOutAbsorbed port data s
  | .resetPoweron => Sys2Proof.Machine.execResetPoweron s
  | .resetSoft => Sys2Proof.Machine.execResetSoft s

end Sys2Proof.Machine
end

