-- ==== Sys2Proof/WellFormed.lean ====
section
/-!
DEFINITION. When a class fits its operands: the port must be one that the decode priority of spec 30_encoding.md rules
R64 and R65 gives to that class; and which parameters agree with the rules: a port pattern must be one that can match
(92_eei_decisions.md D24), and a size must be the one the field widths give.
-/

namespace Sys2Proof

open Sys2Proof.Machine

/-- A pattern has no 1 bit outside its mask (R80's corner case, D24). -/
def PortPattern.wellFormed (p : PortPattern) : Bool :=
  (p.pattern &&& ~~~p.mask) == 0

/-- The sizes agree with the widths that the rules give as numbers: a 16-bit port (R40), an 8-bit byte (R45), a 3-bit
RAM bank (R11), a 2-bit ROM bank (R14), a 2-bit configuration (R18) and a 4-bit register index (R24). Any number of
bytes will do for a bank. -/
def Sizes.wellFormed (z : Sizes) : Bool :=
  z.portWidth == 16 && z.dataWidth == 8 && z.ramBanks == 2 ^ 3 && z.romBanks == 2 ^ 2 && z.specialConfigs == 2 ^ 2 &&
    z.soundRegs == 2 ^ 4

/-- The parameters are well formed (D24, log entry 20). -/
def Params.wellFormed (c : Params) : Bool :=
  c.sizes.wellFormed && c.primary.wellFormed && c.secondary.wellFormed && c.sndSel.wellFormed && c.sndDat.wellFormed

/-- The port of the class is one the decode gives to the class: its own predicate holds and no line before it in R64
or R65 does; of the two sound reads `IN_SOUND_A` comes first (log entry 36). A reset has no operand to check. -/
def Instr.wellFormed (c : Params) : Instr → Bool
  | .inJoystick port => joystickClaim port
  | .inKeyboard port => !joystickClaim port && isEven port
  | .inSoundA port => !joystickClaim port && !isEven port && soundSelect c port
  | .inSoundB port => !joystickClaim port && !isEven port && !soundSelect c port && soundData c port
  | .inFloating port => !joystickClaim port && !isEven port && !soundActivation c port
  | .outPagePri port _ => primaryPaging c port
  | .outPageSec port _ => !primaryPaging c port && secondaryPaging c port
  | .outUla port _ => !pagingPort c port && isEven port
  | .outSndSel port _ => !pagingPort c port && !isEven port && soundSelect c port
  | .outSndDat port _ => !pagingPort c port && !isEven port && !soundSelect c port && soundData c port
  | .outAbsorbed port _ => !pagingPort c port && !isEven port && !soundSelect c port && !soundData c port
  | .resetPoweron => true
  | .resetSoft => true

end Sys2Proof
end

