-- ==== Sys2Proof/Decode.lean ====
section
/-!
DEFINITION. The decoder and the encoder of transaction words (spec 30_encoding.md rules R60 to R65 and R71), the opcode
table in the machine-readable form spec/opcode_table.json gives it, and the numbers the host hands over.
-/

namespace Sys2Proof

open Sys2Proof.Machine

/-! ## The fields of a word -/

/-- `KIND` = word[25:24] (R60). -/
def kindOf (w : TxWord) : BitVec 2 :=
  w.extractLsb' 24 2

/-- `PORT` = word[23:8] (R60, R62). -/
def portOf (w : TxWord) : Port :=
  w.extractLsb' 8 16

/-- `DATA` = word[7:0] (R60, R63). -/
def dataOf (w : TxWord) : Byte :=
  w.extractLsb' 0 8

/-- `{KIND[1:0], PORT[15:0], DATA[7:0]}` (R60). -/
def txWord (kind : BitVec 2) (port : Port) (data : Byte) : TxWord :=
  kind ++ (port ++ data)

/-! ## Decode -/

/-- The read class of a port: the first line of R64 that matches. DESIGN CHOICE (log entry 36): R64 does not say to which
of the two sound classes a port on both sound patterns belongs, and it is `IN_SOUND_A` here. -/
def decodeRead (c : Params) (port : Port) : Instr :=
  if joystickClaim port then .inJoystick port
  else if isEven port then .inKeyboard port
  else if soundActivation c port then
    if soundSelect c port then .inSoundA port else .inSoundB port
  else .inFloating port

/-- The write class of a port: the first line of R65 that matches. -/
def decodeWrite (c : Params) (port : Port) (data : Byte) : Instr :=
  if primaryPaging c port then .outPagePri port data
  else if secondaryPaging c port then .outPageSec port data
  else if isEven port then .outUla port data
  else if soundSelect c port then .outSndSel port data
  else if soundData c port then .outSndDat port data
  else .outAbsorbed port data

/-- Every word decodes to exactly one class (R61, R71). The decode reads no state (R72, R91). -/
def decode (c : Params) (w : TxWord) : Instr :=
  if kindOf w = 0b00#2 then decodeRead c (portOf w)
  else if kindOf w = 0b01#2 then decodeWrite c (portOf w) (dataOf w)
  else if kindOf w = 0b10#2 then .resetPoweron
  else .resetSoft

/-- Why a number is no transaction word. -/
inductive DecodeError where
  /-- Raised by `decodeNat` on a number wider than a transaction word (R72). Safe: no
  transaction has such a word, and `Machine.step` is never handed one. -/
  | wordTooWide
deriving DecidableEq, Repr

/-- The decoder on any number: rejects, by name, one that is wider than a transaction word. -/
def decodeNat (c : Params) (n : Nat) : Except DecodeError Instr :=
  if n < 2 ^ c.sizes.wordWidth then .ok (decode c (BitVec.ofNat 26 n)) else .error .wordTooWide

/-- The number whose low `nbits` bits the host gives and whose other bits are 0. -/
def tableNumber (nbits w : Nat) : Nat :=
  w % 2 ^ nbits

/-- The instruction the decoder reads from a word numbered as the opcode table numbers it: the table's bit 0 is the
word's bit 0 (R4, R60). -/
def decodeTableWord (nbits w : Nat) : Option Instr :=
  match decodeNat hardware (tableNumber nbits w) with
  | .ok i => some i
  | .error _ => none

/-! ## Encode -/

/-- The canonical word of a class: ignored fields are 0 (R62, R63). -/
def encode (i : Instr) : TxWord :=
  txWord i.kind i.port i.data

/-! ## The opcode table -/

/-- A row of the opcode table: it matches a word when `(word & mask) == match`. -/
structure OpcodeRow where
  mnemonic : String
  pattern : TxWord
  mask : TxWord
  priority : Nat
deriving DecidableEq, Repr

/-- The rows of the reads, in ascending priority (spec/opcode_table.json). -/
def readRows : List OpcodeRow :=
  [⟨"IN_JOYSTICK", 0x0000000, 0x3002000, 1⟩,
   ⟨"IN_KEYBOARD", 0x0002000, 0x3002100, 2⟩,
   ⟨"IN_SOUND_A", 0x0C02100, 0x3C02300, 3⟩,
   ⟨"IN_SOUND_B", 0x0802100, 0x3C02300, 3⟩,
   ⟨"IN_FLOATING", 0x0002100, 0x3002100, 4⟩]

/-- The rows of the writes, in ascending priority. -/
def writeRows : List OpcodeRow :=
  [⟨"OUT_PAGE_PRI", 0x1400000, 0x3C00200, 1⟩,
   ⟨"OUT_PAGE_SEC", 0x1100000, 0x3F00200, 2⟩,
   ⟨"OUT_ULA", 0x1000000, 0x3000100, 3⟩,
   ⟨"OUT_SND_SEL", 0x1C00100, 0x3C00300, 4⟩,
   ⟨"OUT_SND_DAT", 0x1800100, 0x3C00300, 5⟩,
   ⟨"OUT_ABSORBED", 0x1000100, 0x3000100, 6⟩]

/-- The rows of the resets. -/
def resetRows : List OpcodeRow :=
  [⟨"RESET_POWERON", 0x2000000, 0x3000000, 1⟩,
   ⟨"RESET_SOFT", 0x3000000, 0x3000000, 1⟩]

/-- The rows of a word's `KIND` in ascending priority (the text after R65's map). -/
def rowsOfKind (kind : BitVec 2) : List OpcodeRow :=
  if kind = 0b00#2 then readRows else if kind = 0b01#2 then writeRows else resetRows

/-- The row matches the word. -/
def OpcodeRow.matchesWord (r : OpcodeRow) (w : TxWord) : Bool :=
  (w &&& r.mask) == r.pattern

/-- The table's own decode: the mnemonic of the first row of the word's `KIND` that matches. -/
def tableMnemonic (w : TxWord) : Option String :=
  ((rowsOfKind (kindOf w)).find? (fun r => r.matchesWord w)).map OpcodeRow.mnemonic

end Sys2Proof
end

