-- ==== Sys2Proof/Machine/HostCalls.lean ====
section
/-!
DEFINITION. What the host does to the block between transactions (spec 44_host.md): the snapshot accessors (R160 to
R162), `ClearInputRead` (R165), and the accessors of the memory and video collaborators (41_paging.md R106 to R110). A
host call emits no event.
-/

namespace Sys2Proof.Machine

/-! ## Snapshot -/

/-- `SnapshotGet()`'s record (R160). -/
def snapshotOf (s : State) : SnapshotRecord where
  ramBank := s.paging.ramBank.toNat
  romLow := s.paging.romLow.toNat
  romHigh := s.paging.romHigh.toNat
  shadowScreenSelected := s.paging.shadowScreenSelected.toNat
  pagingPermanentlyDisabled := s.paging.pagingPermanentlyDisabled.toNat
  specialPagingMode := s.paging.specialPagingMode.toNat
  pagingConfiguration := s.paging.pagingConfiguration.toNat
  diskMotorOn := s.paging.diskMotorOn.toNat
  printerStrobe := s.paging.printerStrobe.toNat
  lastUlaOutByte := s.lastUlaOut.toNat

/-- Every field of the record is within its width (R161). -/
def recordFits (r : SnapshotRecord) : Bool :=
  decide (r.ramBank ≤ 7 ∧ r.romLow ≤ 1 ∧ r.romHigh ≤ 1 ∧ r.shadowScreenSelected ≤ 1 ∧
    r.pagingPermanentlyDisabled ≤ 1 ∧ r.specialPagingMode ≤ 1 ∧ r.pagingConfiguration ≤ 3 ∧
    r.diskMotorOn ≤ 1 ∧ r.printerStrobe ≤ 1 ∧ r.lastUlaOutByte ≤ 0xFF)

/-- The PagingState a record that fits describes. -/
def pagingOf (r : SnapshotRecord) : PagingState where
  ramBank := BitVec.ofNat 3 r.ramBank
  romLow := BitVec.ofNat 1 r.romLow
  romHigh := BitVec.ofNat 1 r.romHigh
  shadowScreenSelected := r.shadowScreenSelected == 1
  pagingPermanentlyDisabled := r.pagingPermanentlyDisabled == 1
  specialPagingMode := r.specialPagingMode == 1
  pagingConfiguration := BitVec.ofNat 2 r.pagingConfiguration
  diskMotorOn := r.diskMotorOn == 1
  printerStrobe := r.printerStrobe == 1

/-- `SnapshotSet(record)`: every field of the record, exactly, and no other; a record with a field outside its width is
refused, the state unchanged, and the refusal recorded in the reply (R161, log entry 13). -/
def snapshotSet (r : SnapshotRecord) (s : State) : State :=
  if recordFits r then setLastUlaOut (BitVec.ofNat 8 r.lastUlaOutByte) (setPaging (pagingOf r) s)
  else setReply .restoreRefused s

/-! ## Accessors -/

/-- One accessor: what it returns, and for `CurrentRomPageIndex()` the fault mark it may raise (R106 to R110). -/
def ask (a : Accessor) (s : State) : State :=
  match a with
  | .currentRamPageIndex => setReply (.ramPage (currentRamPageIndex s)) s
  | .currentRomPageIndex => setReply (.romPage (romPageIndexValue s)) (currentRomPageIndex s)
  | .isShadowScreenSelected => setReply (.flag (isShadowScreenSelected s)) s
  | .isSpecialPagingMode => setReply (.flag (isSpecialPagingMode s)) s
  | .currentPagingConfiguration => setReply (.configuration (currentPagingConfiguration s)) s
  | .diskMotorOn => setReply (.flag (diskMotorOn s)) s
  | .printerStrobe => setReply (.flag (printerStrobe s)) s

/-! ## Host calls -/

/-- One host call. -/
def hostCall (h : HostCall) (s : State) : State :=
  match h with
  | .snapshotGet => setReply (.snapshot (snapshotOf s)) (beginSilent s)
  | .snapshotSet r => snapshotSet r (beginSilent s)
  | .clearInputRead => setInputRead false (beginSilent s)
  | .ask a => ask a (beginSilent s)

end Sys2Proof.Machine
end

