-- ==== Sys2Proof/Machine/Run.lean ====
section
/-!
DEFINITION. How the block takes what is asked of it: one request at a time, oldest first (spec 00_scope.md R6,
20_memory.md R48). A transaction is decoded and its class run with the inputs sampled for it; a host call is done
between transactions (44_host.md R162); with nothing asked, the block does nothing (60_exceptions.md R178). The
parameters and the meaning of a class are arguments, so that every build of the block (R5) takes its requests alike.
-/

namespace Sys2Proof.Machine

/-- Does one request, `rest` being what is still asked after it and `run` the meaning of a class. -/
def runRequest (c : Params) (run : Instr → State → Result) (r : Request) (rest : List Request) (s : State) : Result :=
  match r with
  | .transaction word inputs => run (decode c word) (accept inputs rest s)
  | .host call => .next (hostCall call (dequeue rest s))

/-- Does the oldest request; with none, the step emits nothing and returns nothing (log entry 5). -/
def runNext (c : Params) (run : Instr → State → Result) (s : State) : Result :=
  match s.pending with
  | [] => .next (beginSilent s)
  | r :: rest => runRequest c run r rest s

/-- Asks for the transaction whose word is the number `n`, before everything else already asked, with the inputs the
state's lines hold. A number wider than a transaction word is no transaction, and nothing is asked (log entry 21). -/
def askNext (n : Nat) (s : State) : State :=
  if n < 2 ^ hardware.sizes.wordWidth then
    { s with pending := .transaction (BitVec.ofNat 26 n) s.inputs :: s.pending }
  else s

end Sys2Proof.Machine
end

