-- ==== Sys2Proof/Machine/Step.lean ====
section
/-!
DEFINITION. One step of the machine (spec 00_scope.md R6), and the state in which a given transaction word is the next
one asked for.
-/

namespace Sys2Proof.Machine

/-- One step: the oldest request asked of the block. -/
def step (s : State) : Host.Outcome State Fault Refusal :=
  runNext hardware exec s

/-- `s` with the word of the opcode table's numbering asked for next. -/
def State.withFetchWord (s : State) (nbits w : Nat) : State :=
  askNext (tableNumber nbits w) s

end Sys2Proof.Machine
end

