-- ==== Sys2Proof/Machine/Ports.lean ====
section
/-!
DEFINITION. The Port Arbiter's two CPU entry points (spec 00_scope.md R3) as their pseudocode writes them: `ReadPort`
(42_port_read.md R120) and `WritePort` (43_port_write.md R140), for any parameters. The machine runs the decoded class
of a word; that the two agree is a statement about it.
-/

namespace Sys2Proof.Machine

/-- The byte `ReadPort(port)` returns: the claims in R120's fixed order. -/
def readPortValue (c : Params) (port : Port) (s : State) : Byte :=
  if joystickClaim port then readJoystick c s
  else if isEven port then readKeyboard c port s
  else if soundActivation c port then readSound c s
  else readFloating c

/-- `ReadPort(port)` (R120). -/
def readPort (c : Params) (port : Port) (s : State) : State :=
  answer (readPortValue c port s) (beginRead port s)

/-- `WritePort(port, value)` (R140). -/
def writePort (c : Params) (port : Port) (v : Byte) (s : State) : State :=
  if pagingPort c port then
    setPaging (onPagingControlPortWrite c port v s.paging) (beginWrite port s)
  else if isEven port then ulaWrite v (beginWrite port s)
  else if soundSelect c port then soundSelectWrite c v (beginWrite port s)
  else if soundData c port then soundDataWrite c v (beginWrite port s)
  else beginWrite port s

end Sys2Proof.Machine
end

