-- ==== Sys2Proof/Machine/Build.lean ====
section
/-!
DEFINITION. The block built with any parameters (spec 00_scope.md R5): the meaning of a class, the step and the machine
take them as an argument. With `P_AUX_GATED` or `P_EAR_DEFAULT_INVERT` false, or other masks, it is another build of
the same block. `exec`, `step` and `Sys2Proof.core` are the build "for this hardware", with `hardware`.
-/

namespace Sys2Proof.Machine

/-- The meaning of a class in the build with parameters `c`. A reset has no parameter (R180, R181). -/
def execFor (c : Params) (i : Instr) (s : State) : Result :=
  match i with
  | .inJoystick port => inJoystickFor c port s
  | .inKeyboard port => inKeyboardFor c port s
  | .inSoundA port => inSoundAFor c port s
  | .inSoundB port => inSoundBFor c port s
  | .inFloating port => inFloatingFor c port s
  | .outPagePri port data => outPagePriFor c port data s
  | .outPageSec port data => outPageSecFor c port data s
  | .outUla port data => outUlaFor c port data s
  | .outSndSel port data => outSndSelFor c port data s
  | .outSndDat port data => outSndDatFor c port data s
  | .outAbsorbed port data => outAbsorbedFor c port data s
  | .resetPoweron => execResetPoweron s
  | .resetSoft => execResetSoft s

/-- One step of the build with parameters `c`. -/
def stepFor (c : Params) (s : State) : Result :=
  runNext c (execFor c) s

/-- The build with parameters `c` as a machine: its reset state is the same for all of them (R180). -/
def coreFor (c : Params) : Host.Core where
  State := State
  Fault := Fault
  Refusal := Refusal
  step := stepFor c
  reset := State.reset

end Sys2Proof.Machine
end

