-- ==== Sys2Proof/Safety.lean ====
section
/-!
DEFINITION. The terms the claims use: which requests can undo the lock, the state in which paging is frozen (spec
41_paging.md R105), the order an access's output keeps (70_reset_and_hazards.md R185), the contract the host owes the
block (44_host.md R163, 10_state.md R27), and the events of several steps in order.
-/

namespace Sys2Proof.Machine

/-! ## The lock -/

/-- The request may change PagingState although the lock is set: a reset word (`KIND` = 0b10 or 0b11, R180, R181), or
a restore, which is no transaction (R161). -/
def changesLockedPaging : Request → Bool
  | .transaction word _ => word.getLsbD 25
  | .host (.snapshotSet _) => true
  | .host .snapshotGet => false
  | .host .clearInputRead => false
  | .host (.ask _) => false

/-- The request may clear the lock: a power-on word (R180), or a restore (R161). -/
def unlocks : Request → Bool
  | .transaction word _ => kindOf word == 0b10#2
  | .host (.snapshotSet _) => true
  | .host .snapshotGet => false
  | .host .clearInputRead => false
  | .host (.ask _) => false

/-- PagingState is `p` with the lock set, and nothing asked of the block can change it (R105). -/
def frozen (p : PagingState) (s : State) : Bool :=
  decide (s.paging = p) && p.pagingPermanentlyDisabled && s.pending.all (fun r => !changesLockedPaging r)

/-! ## The output of a step -/

/-- The event lists a step may leave, each in the order of R185 and R28. -/
def legalEvents : List Event → Bool
  | [] => true
  | [.notify _] => true
  | [.notify _, .buzzer _] => true
  | [.notify _, .flushBorderBuffer _, .buzzer _] => true
  | [.notify _, .soundSelect _, .cyclePenalty n] => n == 3
  | [.notify _, .soundWrite _ _, .cyclePenalty n] => n == 3
  | _ => false

/-- The step returned a read byte. -/
def returnedByte : Reply → Bool
  | .byte _ => true
  | .none => false
  | .snapshot _ => false
  | .restoreRefused => false
  | .ramPage _ => false
  | .romPage _ => false
  | .configuration _ => false
  | .flag _ => false

/-- The output is one the block gives: legal events, and a read byte only with the `Notify` of its own access as the
only event and the flag set (R121, R122). -/
def legalOutput (s : State) : Bool :=
  legalEvents s.events && (!returnedByte s.reply || (s.inputRead && s.events.length == 1))

/-! ## What the host owes the block -/

/-- What a request makes of PagingState: the entry point on a paging port (R100, R142), a reset (R180, R181) or a
restore (R161), and nothing else (90_conflicts.md C10). -/
def pagingAfter (c : Params) (r : Request) (p : PagingState) : PagingState :=
  match r with
  | .transaction word _ =>
    if kindOf word = 0b00#2 then p
    else if kindOf word = 0b01#2 then
      if pagingPort c (portOf word) then onPagingControlPortWrite c (portOf word) (dataOf word) p else p
    else if kindOf word = 0b10#2 then PagingState.reset
    else { PagingState.reset with pagingPermanentlyDisabled := p.pagingPermanentlyDisabled }
  | .host (.snapshotSet record) => if recordFits record then pagingOf record else p
  | .host .snapshotGet => p
  | .host .clearInputRead => p
  | .host (.ask _) => p

/-- The request asks `CurrentRomPageIndex()`. -/
def asksRomPage : Request → Bool
  | .transaction _ _ => false
  | .host .snapshotGet => false
  | .host (.snapshotSet _) => false
  | .host .clearInputRead => false
  | .host (.ask a) => a == .currentRomPageIndex

/-- Along the requests, from PagingState `p` on, `CurrentRomPageIndex()` is never asked in special mode (R163). -/
def asksInNormalMode (c : Params) (p : PagingState) : List Request → Bool
  | [] => true
  | r :: rest => !(asksRomPage r && p.specialPagingMode) && asksInNormalMode c (pagingAfter c r p) rest

/-- The transactions' cycle counts, from `n` on, never decrease (R27). -/
def cyclesFrom (n : Nat) : List Request → Bool
  | [] => true
  | .transaction _ inputs :: rest => decide (n ≤ inputs.cycle) && cyclesFrom inputs.cycle rest
  | .host _ :: rest => cyclesFrom n rest

/-- No contract slip has been recorded and none is coming: what is asked of the build with parameters `c` never asks
for the ROM index in special mode, and the cycle count never runs backwards (R163, R27). -/
def honestHost (c : Params) (s : State) : Bool :=
  !s.romIndexInSpecialMode && asksInNormalMode c s.paging s.pending && cyclesFrom s.inputs.cycle s.pending

/-! ## Runs -/

/-- The events of `k` steps, in order. -/
def eventsOfRun : Nat → State → List Event
  | 0, _ => []
  | k + 1, s =>
    match step s with
    | .next t => t.events ++ eventsOfRun k t
    | .fault _ => []
    | .refused _ => []

/-- The event is a border flush. -/
def isFlush : Event → Bool
  | .flushBorderBuffer _ => true
  | .notify _ => false
  | .buzzer _ => false
  | .soundSelect _ => false
  | .soundWrite _ _ => false
  | .cyclePenalty _ => false

/-- How often the colour changes along written values, from the colour `now` on (R144). -/
def colourChanges (now : BitVec 3) : List Byte → Nat
  | [] => 0
  | v :: vs => (if v.extractLsb' 0 3 = now then 0 else 1) + colourChanges (v.extractLsb' 0 3) vs

/-- The requests of ULA writes: for each, its port, the byte written and the inputs sampled. -/
def writesTo : List (Port × Byte × Inputs) → List Request
  | [] => []
  | (port, v, inputs) :: more => .transaction (txWord 0b01#2 port v) inputs :: writesTo more

end Sys2Proof.Machine
end

