-- ==== Sys2Proof/Certificates/Slice0/Obligations.lean ====
section
/-!
DEFINITION. The statements about the block, from the numbered rules of spec/. Bits are written `v.getLsbD i` for `v[i]`
and slices `v.extractLsb' lo len` for `v[lo+len-1:lo]`, bit 0 least significant (00_scope.md R4). The block holds no
memory (20_memory.md R41), so no frame below speaks of any.
-/

open Sys2Proof Sys2Proof.Machine

/-! ## Encoding and decoding -/

/-- 30_encoding.md R60 to R65: for all parameters, decoding the word of a class that fits its operands gives the class
back, with every operand at every value. Which class a port on two patterns fits is decision D24's order for writes (log
entry 32), and for the two sound reads the model's choice (log entry 36). -/
def Obligations.DecodeEncodeRoundTrip : Prop :=
  ∀ (c : Params) (i : Instr), i.wellFormed c = true → decode c (encode i) = i

/-- R71 with R62 and R63: every word decodes to a class that fits its operands, and encoding the class gives the word
with its ignored fields at their canonical value 0. -/
def Obligations.EncodeDecodeIsCanonicalWord : Prop :=
  ∀ (c : Params) (w : TxWord), (decode c w).wellFormed c = true ∧
    encode (decode c w) =
      if w.extractLsb' 24 2 = 0b00#2 then w &&& 0x3FFFF00#26
      else if w.extractLsb' 24 2 = 0b01#2 then w
      else w &&& 0x3000000#26

/-- R64, for all parameters: a read word decodes to exactly one read class, that of the first predicate that holds:
joystick, even, sound activation, otherwise floating. That a port on both sound patterns is `IN_SOUND_A` is the model's
choice (log entry 36). -/
def Obligations.ReadDecodePriority : Prop :=
  ∀ (c : Params) (w : TxWord), w.getLsbD 25 = false → w.getLsbD 24 = false →
    (joystickClaim (w.extractLsb' 8 16) = true → decode c w = .inJoystick (w.extractLsb' 8 16)) ∧
    (joystickClaim (w.extractLsb' 8 16) = false → isEven (w.extractLsb' 8 16) = true →
      decode c w = .inKeyboard (w.extractLsb' 8 16)) ∧
    (joystickClaim (w.extractLsb' 8 16) = false → isEven (w.extractLsb' 8 16) = false →
      soundActivation c (w.extractLsb' 8 16) = true →
      decode c w =
        if soundSelect c (w.extractLsb' 8 16) then .inSoundA (w.extractLsb' 8 16)
        else .inSoundB (w.extractLsb' 8 16)) ∧
    (joystickClaim (w.extractLsb' 8 16) = false → isEven (w.extractLsb' 8 16) = false →
      soundActivation c (w.extractLsb' 8 16) = false → decode c w = .inFloating (w.extractLsb' 8 16))

/-- The map under R65, with the general-knowledge default masks (log entry 6): a read word decodes by port bits 5, 0,
15, 14 and 1 alone, in the fixed order joystick, keyboard, sound, floating. -/
def Obligations.ReadWordsDecodeByPortBits : Prop :=
  ∀ w : TxWord, w.getLsbD 25 = false → w.getLsbD 24 = false →
    decode hardware w =
      if w.getLsbD (8 + 5) = false then .inJoystick (w.extractLsb' 8 16)
      else if w.getLsbD (8 + 0) = false then .inKeyboard (w.extractLsb' 8 16)
      else if w.getLsbD (8 + 15) = true ∧ w.getLsbD (8 + 1) = false then
        if w.getLsbD (8 + 14) = true then .inSoundA (w.extractLsb' 8 16) else .inSoundB (w.extractLsb' 8 16)
      else .inFloating (w.extractLsb' 8 16)

/-- R65's map, with the general-knowledge default masks (log entry 6) and the order of decision D24: a write word
decodes by port bits 15 to 12, 1 and 0 alone, in the fixed order primary paging, secondary paging, ULA, sound select, sound data, absorbed. -/
def Obligations.WriteWordsDecodeByPortBits : Prop :=
  ∀ w : TxWord, w.getLsbD 25 = false → w.getLsbD 24 = true →
    decode hardware w =
      if w.getLsbD (8 + 15) = false ∧ w.getLsbD (8 + 14) = true ∧ w.getLsbD (8 + 1) = false then
        .outPagePri (w.extractLsb' 8 16) (w.extractLsb' 0 8)
      else if w.getLsbD (8 + 15) = false ∧ w.getLsbD (8 + 14) = false ∧ w.getLsbD (8 + 13) = false ∧
          w.getLsbD (8 + 12) = true ∧ w.getLsbD (8 + 1) = false then
        .outPageSec (w.extractLsb' 8 16) (w.extractLsb' 0 8)
      else if w.getLsbD (8 + 0) = false then .outUla (w.extractLsb' 8 16) (w.extractLsb' 0 8)
      else if w.getLsbD (8 + 15) = true ∧ w.getLsbD (8 + 14) = true ∧ w.getLsbD (8 + 1) = false then
        .outSndSel (w.extractLsb' 8 16) (w.extractLsb' 0 8)
      else if w.getLsbD (8 + 15) = true ∧ w.getLsbD (8 + 14) = false ∧ w.getLsbD (8 + 1) = false then
        .outSndDat (w.extractLsb' 8 16) (w.extractLsb' 0 8)
      else .outAbsorbed (w.extractLsb' 8 16) (w.extractLsb' 0 8)

/-- R61 and R62: `KIND` 0b10 is a power-on reset and 0b11 a soft reset, whatever `PORT` and `DATA` are. -/
def Obligations.ResetWordsIgnorePortAndData : Prop :=
  ∀ (c : Params) (port : Port) (data : Byte),
    decode c (0b10#2 ++ (port ++ data)) = .resetPoweron ∧ decode c (0b11#2 ++ (port ++ data)) = .resetSoft

/-- The text under R65's map: taking the rows of the word's `KIND` in ascending priority and the first that matches
gives the decoder's verdict, for every one of the 2^26 words, under the default parameters the table is made for. -/
def Obligations.OpcodeTableAgreesWithDecode : Prop :=
  ∀ w : TxWord, tableMnemonic w = some (decode hardware w).mnemonic

/-- 95_test_vectors.md L2-1, L2-2, L2-12 and P1 to P6: words written out in the spec decode to their classes. -/
def Obligations.SpecWordsDecode : Prop :=
  decode hardware 0x0001E00 = .inJoystick 0x001E ∧
  decode hardware 0x0FEFE00 = .inKeyboard 0xFEFE ∧
  decode hardware 0x0FFFD00 = .inSoundA 0xFFFD ∧
  decode hardware 0x0BFFD00 = .inSoundB 0xBFFD ∧
  decode hardware 0x07FFD00 = .inFloating 0x7FFD ∧
  decode hardware 0x17FFC01 = .outPagePri 0x7FFC 0x01 ∧
  decode hardware 0x11FFD04 = .outPageSec 0x1FFD 0x04 ∧
  decode hardware 0x112FE12 = .outUla 0x12FE 0x12 ∧
  decode hardware 0x1FFFD07 = .outSndSel 0xFFFD 0x07 ∧
  decode hardware 0x1BFFD38 = .outSndDat 0xBFFD 0x38 ∧
  decode hardware 0x1FFFF55 = .outAbsorbed 0xFFFF 0x55 ∧
  decode hardware 0x2000000 = .resetPoweron ∧
  decode hardware 0x3000000 = .resetSoft

/-! ## The Bit/Mask Decoder -/

/-- 40_decoder.md R82: the source's expression, and its reduction to port bit 5. -/
def Obligations.JoystickClaimIsPortBitFive : Prop :=
  ∀ port : Port,
    joystickClaim port = decide ((port &&& 0xE0#16) = 0#16 ∨ (port &&& 0x20#16) = 0#16) ∧
    joystickClaim port = !port.getLsbD 5

/-- R80, R81, R83 and R86: the primitives and the predicates built from them, for all parameters. -/
def Obligations.DecoderPrimitives : Prop :=
  (∀ port mask pattern : BitVec 16, matchPort port ⟨mask, pattern⟩ = decide ((port &&& mask) = pattern)) ∧
  (∀ (port : Port) (n : Nat), n < 16 →
    bitReset port n = decide (port.getLsbD n = false) ∧ bitReset port n = matchPort port ⟨1#16 <<< n, 0#16⟩) ∧
  (∀ port : Port, isEven port = bitReset port 0) ∧
  (∀ (c : Params) (port : Port), pagingPort c port = (primaryPaging c port || secondaryPaging c port))

/-- R84, R85, R87, R88 and R89 with their default parameters: which port bits each pattern tests, that no port is on
two paging ports or on two sound ports, and that sound activation is bit 15 = 1 and bit 1 = 0. -/
def Obligations.DefaultPortPatterns : Prop :=
  ∀ port : Port,
    primaryPaging hardware port = (!port.getLsbD 15 && port.getLsbD 14 && !port.getLsbD 1) ∧
    secondaryPaging hardware port =
      (!port.getLsbD 15 && !port.getLsbD 14 && !port.getLsbD 13 && port.getLsbD 12 && !port.getLsbD 1) ∧
    soundSelect hardware port = (port.getLsbD 15 && port.getLsbD 14 && !port.getLsbD 1) ∧
    soundData hardware port = (port.getLsbD 15 && !port.getLsbD 14 && !port.getLsbD 1) ∧
    ¬ (primaryPaging hardware port = true ∧ secondaryPaging hardware port = true) ∧
    ¬ (soundSelect hardware port = true ∧ soundData hardware port = true) ∧
    soundActivation hardware port = (soundSelect hardware port || soundData hardware port) ∧
    soundActivation hardware port = matchPort port ⟨0x8002, 0x8000⟩

/-! ## Reads -/

/-- 42_port_read.md R123 (with R121, R122): a joystick read completes with the joystick's line state, or 0xFF without a
joystick (`P_JOY_ABSENT` in any build), for every word of `KIND` 0b00 whose port bit 5 is 0. -/
def Obligations.JoystickReadResult : Prop :=
  (∀ (port : Port) (s : State),
    exec (.inJoystick port) s = .next { s with
      inputRead := true
      reply := .byte (if s.inputs.joyPresent then s.inputs.joyLine else 0xFF)
      events := [.notify port] }) ∧
  (∀ (c : Params) (port : Port) (s : State),
    execFor c (.inJoystick port) s = .next { s with
      inputRead := true
      reply := .byte (if s.inputs.joyPresent then s.inputs.joyLine else c.joyAbsent)
      events := [.notify port] }) ∧
  (∀ w : TxWord, w.extractLsb' 24 2 = 0b00#2 → w.getLsbD (8 + 5) = false →
    decode hardware w = .inJoystick (w.extractLsb' 8 16))

/-- 95_test_vectors.md L1-4: a read at a port whose bit 5 is 0 depends on the joystick's presence and line state alone:
in two states that agree on those, whatever the rows, the tape, the latch and the sound registers, it returns the same. -/
def Obligations.JoystickReadDependsOnJoystickOnly : Prop :=
  ∀ (w : TxWord) (s t : State), w.extractLsb' 24 2 = 0b00#2 → w.getLsbD (8 + 5) = false →
    s.inputs.joyPresent = t.inputs.joyPresent → s.inputs.joyLine = t.inputs.joyLine →
    ∃ s' t', exec (decode hardware w) s = .next s' ∧ exec (decode hardware w) t = .next t' ∧ s'.reply = t'.reply

/-- R124 and R125: bit k of the row AND is 1 exactly when it is 1 in every selected row (so it is 1 when no row is
selected); the mask keeps bits 4 to 0, and forces bits 7, 6 and 5 to 1, 0 and 1. -/
def Obligations.KeyboardRowAndMask : Prop :=
  (∀ (rows : Vector Byte 8) (port : Port) (k : Nat), k < 8 →
    ((rowAnd rows port).getLsbD k = true ↔
      ∀ i : Fin 8, port.getLsbD (8 + i) = false → rows[i].getLsbD k = true)) ∧
  (∀ (acc : Byte) (k : Nat), k < 5 → (maskAndForce acc).getLsbD k = acc.getLsbD k) ∧
  (∀ acc : Byte, (maskAndForce acc).extractLsb' 5 3 = 0b101#3)

/-- R126 and R127, for all parameters: a keyboard read of any build completes, and the overlay goes into bit `P_TAPE_BIT` and no other; it is the ear sample when
the tape is active, and otherwise bit 4 of the latch, complemented or not as `P_EAR_DEFAULT_INVERT` says. -/
def Obligations.KeyboardOverlayBit : Prop :=
  ∀ (c : Params) (port : Port) (s : State), ∃ v : Byte,
    execFor c (.inKeyboard port) s =
      .next { s with inputRead := true, reply := .byte v, events := [.notify port] } ∧
    ∀ k : Nat, k < 8 → v.getLsbD k =
      if k = c.tapeBit.val then
        if s.inputs.tapeActive then s.inputs.earSample
        else if c.earDefaultInvert then !s.lastUlaOut.getLsbD 4 else s.lastUlaOut.getLsbD 4
      else (maskAndForce (rowAnd s.inputs.keyRow port)).getLsbD k

/-- The composite of R124 to R127 under the default parameters: a keyboard read completes with a byte whose bits 4 to 0
are the AND of the selected rows', whose bits 7 and 5 are 1, and whose bit 6 is the ear sample or the complement of the
latch's bit 4. -/
def Obligations.KeyboardReadResult : Prop :=
  ∀ (port : Port) (s : State), ∃ v : Byte,
    exec (.inKeyboard port) s =
      .next { s with inputRead := true, reply := .byte v, events := [.notify port] } ∧
    (∀ k : Nat, k < 5 → (v.getLsbD k = true ↔
      ∀ i : Fin 8, port.getLsbD (8 + i) = false → s.inputs.keyRow[i].getLsbD k = true)) ∧
    v.getLsbD 5 = true ∧
    v.getLsbD 6 = (if s.inputs.tapeActive then s.inputs.earSample else !s.lastUlaOut.getLsbD 4) ∧
    v.getLsbD 7 = true

/-- R124 and R125, half-row i being selected by port bit 8+i (R90, decision D7, log entry 28): what a keyboard read
cannot see. Two states that agree on bits 4 to 0 of the selected rows, on the
tape and on bit 4 of the latch give the same byte, whatever the other rows, the rows' bits 7 to 5 and all else hold. -/
def Obligations.KeyboardReadSeesSelectedRowsOnly : Prop :=
  ∀ (port : Port) (s t : State),
    (∀ i : Fin 8, port.getLsbD (8 + i) = false →
      s.inputs.keyRow[i].extractLsb' 0 5 = t.inputs.keyRow[i].extractLsb' 0 5) →
    s.inputs.tapeActive = t.inputs.tapeActive → s.inputs.earSample = t.inputs.earSample →
    s.lastUlaOut.getLsbD 4 = t.lastUlaOut.getLsbD 4 →
    ∃ s' t', exec (.inKeyboard port) s = .next s' ∧ exec (.inKeyboard port) t = .next t' ∧ s'.reply = t'.reply

/-- R128: a read at either activation pattern completes with the selected sound register, through the build's
`P_SND_READBACK`, which is the identity by default; it emits no penalty. -/
def Obligations.SoundReadResult : Prop :=
  (∀ (port : Port) (s : State),
    exec (.inSoundA port) s = .next { s with
      inputRead := true
      reply := .byte (s.soundReg[s.soundSel.toNat]'(s.soundSel.isLt))
      events := [.notify port] } ∧
    exec (.inSoundB port) s = .next { s with
      inputRead := true
      reply := .byte (s.soundReg[s.soundSel.toNat]'(s.soundSel.isLt))
      events := [.notify port] }) ∧
  (∀ (c : Params) (port : Port) (s : State),
    execFor c (.inSoundA port) s = .next { s with
      inputRead := true
      reply := .byte (c.sndReadback s.soundSel (s.soundReg[s.soundSel.toNat]'(s.soundSel.isLt)))
      events := [.notify port] } ∧
    execFor c (.inSoundB port) s = execFor c (.inSoundA port) s) ∧
  (∀ w : TxWord, w.extractLsb' 24 2 = 0b00#2 → w.getLsbD (8 + 5) = true → w.getLsbD (8 + 0) = true →
    soundActivation hardware (w.extractLsb' 8 16) = true →
    decode hardware w = .inSoundA (w.extractLsb' 8 16) ∨ decode hardware w = .inSoundB (w.extractLsb' 8 16))

/-- R129: a read no device claims completes with the floating-bus sentinel `P_FLOAT`, which is 0xFF. -/
def Obligations.FloatingReadResult : Prop :=
  (∀ (port : Port) (s : State),
    exec (.inFloating port) s =
      .next { s with inputRead := true, reply := .byte 0xFF, events := [.notify port] }) ∧
  (∀ (c : Params) (port : Port) (s : State),
    execFor c (.inFloating port) s =
      .next { s with inputRead := true, reply := .byte c.floating, events := [.notify port] }) ∧
  (∀ w : TxWord, w.extractLsb' 24 2 = 0b00#2 → w.getLsbD (8 + 5) = true → w.getLsbD (8 + 0) = true →
    soundActivation hardware (w.extractLsb' 8 16) = false →
    decode hardware w = .inFloating (w.extractLsb' 8 16))

/-- R130 with R121, R122 and R45, for all five read classes: the frame. A read completes, returns a byte, emits its
`Notify` alone, sets the flag, and changes no other field. -/
def Obligations.ReadFrame : Prop :=
  ∀ (i : Instr) (s : State), i.kind = 0b00#2 →
    ∃ (t : State) (v : Byte), exec i s = .next t ∧ t.reply = .byte v ∧ t.events = [.notify i.port] ∧
      t.inputRead = true ∧ t.paging = s.paging ∧ t.lastUlaOut = s.lastUlaOut ∧ t.soundSel = s.soundSel ∧
      t.soundReg = s.soundReg ∧ t.romIndexInSpecialMode = s.romIndexInSpecialMode ∧
      t.inputs = s.inputs ∧ t.pending = s.pending

/-! ## The Paging Controller -/

/-- 41_paging.md R101 with the layout of R66: a primary write while the lock is clear. -/
def Obligations.PrimaryWriteResult : Prop :=
  ∀ (port : Port) (v : Byte) (s : State), s.paging.pagingPermanentlyDisabled = false →
    exec (.outPagePri port v) s = .next { s with
      paging := { s.paging with
        ramBank := v.extractLsb' 0 3
        shadowScreenSelected := v.getLsbD 3
        romLow := v.extractLsb' 4 1
        pagingPermanentlyDisabled := v.getLsbD 5 }
      reply := .none
      events := [.notify port] }

/-- R102: a secondary write with bit 0 clear while the lock is clear, its aux bits (R104) included. -/
def Obligations.SecondaryNormalWriteResult : Prop :=
  ∀ (port : Port) (v : Byte) (s : State), s.paging.pagingPermanentlyDisabled = false → v.getLsbD 0 = false →
    exec (.outPageSec port v) s = .next { s with
      paging := { s.paging with
        romHigh := v.extractLsb' 2 1
        specialPagingMode := false
        diskMotorOn := v.getLsbD 3
        printerStrobe := v.getLsbD 4 }
      reply := .none
      events := [.notify port] }

/-- R103: a secondary write with bit 0 set while the lock is clear, its aux bits (R104) included. -/
def Obligations.SecondarySpecialWriteResult : Prop :=
  ∀ (port : Port) (v : Byte) (s : State), s.paging.pagingPermanentlyDisabled = false → v.getLsbD 0 = true →
    exec (.outPageSec port v) s = .next { s with
      paging := { s.paging with
        pagingConfiguration := v.extractLsb' 1 2
        specialPagingMode := true
        diskMotorOn := v.getLsbD 3
        printerStrobe := v.getLsbD 4 }
      reply := .none
      events := [.notify port] }

/-- R100 under the default `P_AUX_GATED` = true: a write to either paging port while the lock is set changes nothing,
and is not an error. -/
def Obligations.LockedPagingWriteIsIgnored : Prop :=
  ∀ (port : Port) (v : Byte) (s : State), s.paging.pagingPermanentlyDisabled = true →
    exec (.outPagePri port v) s = .next { s with reply := .none, events := [.notify port] } ∧
    exec (.outPageSec port v) s = .next { s with reply := .none, events := [.notify port] }

/-- R100 and R104 for all parameters: the write entry point, which both paging classes of any build run, checks the lock first; while it is set, only the variant
with `P_AUX_GATED` = false, on a port that is secondary and not primary, writes the two aux bits and nothing else. -/
def Obligations.PagingEntryPointUnderTheLock : Prop :=
  ∀ (c : Params) (port : Port) (v : Byte) (p : PagingState),
    (p.pagingPermanentlyDisabled = true →
      onPagingControlPortWrite c port v p =
        if secondaryPaging c port = true ∧ primaryPaging c port = false ∧ c.auxGated = false then
          { p with diskMotorOn := v.getLsbD 3, printerStrobe := v.getLsbD 4 }
        else p) ∧
    (p.pagingPermanentlyDisabled = false → primaryPaging c port = true →
      onPagingControlPortWrite c port v p =
        { p with
          ramBank := v.extractLsb' 0 3
          shadowScreenSelected := v.getLsbD 3
          romLow := v.extractLsb' 4 1
          pagingPermanentlyDisabled := v.getLsbD 5 }) ∧
    (p.pagingPermanentlyDisabled = false → primaryPaging c port = false →
      (onPagingControlPortWrite c port v p).diskMotorOn = v.getLsbD 3 ∧
      (onPagingControlPortWrite c port v p).printerStrobe = v.getLsbD 4 ∧
      (onPagingControlPortWrite c port v p).specialPagingMode = v.getLsbD 0 ∧
      (onPagingControlPortWrite c port v p).romHigh = (if v.getLsbD 0 then p.romHigh else v.extractLsb' 2 1) ∧
      (onPagingControlPortWrite c port v p).pagingConfiguration =
        (if v.getLsbD 0 then v.extractLsb' 1 2 else p.pagingConfiguration) ∧
      (onPagingControlPortWrite c port v p).ramBank = p.ramBank ∧
      (onPagingControlPortWrite c port v p).romLow = p.romLow ∧
      (onPagingControlPortWrite c port v p).shadowScreenSelected = p.shadowScreenSelected ∧
      (onPagingControlPortWrite c port v p).pagingPermanentlyDisabled = false) ∧
    (∀ s : State, primaryPaging c port = true →
      execFor c (.outPagePri port v) s = .next { s with
        paging := onPagingControlPortWrite c port v s.paging, reply := .none, events := [.notify port] }) ∧
    (∀ s : State, primaryPaging c port = false → secondaryPaging c port = true →
      execFor c (.outPageSec port v) s = .next { s with
        paging := onPagingControlPortWrite c port v s.paging, reply := .none, events := [.notify port] })

/-- R105 (with R182): with the lock set, a transaction that is no power-on reset leaves it set, and a write, to either
paging port or elsewhere, leaves all of PagingState as it was. -/
def Obligations.LockIsOneWay : Prop :=
  ∀ (s t : State) (w : TxWord) (inputs : Inputs) (rest : List Request),
    s.pending = .transaction w inputs :: rest → s.paging.pagingPermanentlyDisabled = true → step s = .next t →
    (w.extractLsb' 24 2 ≠ 0b10#2 → t.paging.pagingPermanentlyDisabled = true) ∧
    (w.extractLsb' 24 2 = 0b01#2 → t.paging = s.paging)

/-- R105: the invariant behind the idempotent lock. While PagingState is locked at `p` and nothing asked of the block
is a reset or a restore, every step keeps both; so does every step of any build with `P_AUX_GATED` = true. -/
def Obligations.EveryStepKeepsPagingFrozen : Prop :=
  ∀ (p : PagingState) (s t : State), frozen p s = true →
    (step s = .next t → frozen p t = true) ∧
    (∀ c : Params, c.auxGated = true → stepFor c s = .next t → frozen p t = true)

/-- R105, "for arbitrarily many further writes": from a state locked at `p`, any number of steps runs, and PagingState
is still `p`. -/
def Obligations.FrozenPagingSurvivesAnyRun : Prop :=
  ∀ (n : Nat) (p : PagingState) (s : State), frozen p s = true →
    ∃ t : State, Sys2Proof.core.run n s = .next t ∧ t.paging = p

/-- R106 and R108: `CurrentRamPageIndex()` and `IsShadowScreenSelected()` return their fields, in either mode, and
change nothing. -/
def Obligations.RamPageAndShadowAccessors : Prop :=
  ∀ (s : State) (rest : List Request),
    (s.pending = .host (.ask .currentRamPageIndex) :: rest →
      step s = .next { s with pending := rest, reply := .ramPage s.paging.ramBank, events := [] }) ∧
    (s.pending = .host (.ask .isShadowScreenSelected) :: rest →
      step s = .next { s with pending := rest, reply := .flag s.paging.shadowScreenSelected, events := [] })

/-- The accessors decision D20 adds (log entry 29): each returns its field, in either mode, and changes nothing. -/
def Obligations.ModeAndAuxAccessors : Prop :=
  ∀ (s : State) (rest : List Request),
    (s.pending = .host (.ask .isSpecialPagingMode) :: rest →
      step s = .next { s with pending := rest, reply := .flag s.paging.specialPagingMode, events := [] }) ∧
    (s.pending = .host (.ask .currentPagingConfiguration) :: rest →
      step s = .next { s with pending := rest, reply := .configuration s.paging.pagingConfiguration, events := [] }) ∧
    (s.pending = .host (.ask .diskMotorOn) :: rest →
      step s = .next { s with pending := rest, reply := .flag s.paging.diskMotorOn, events := [] }) ∧
    (s.pending = .host (.ask .printerStrobe) :: rest →
      step s = .next { s with pending := rest, reply := .flag s.paging.printerStrobe, events := [] })

/-- R107 with R14: `CurrentRomPageIndex()` returns the ROM bank, high bit of weight 2, in normal mode and changes
nothing; in special mode it returns 0 and sets the fault mark. -/
def Obligations.RomPageIndexAccessor : Prop :=
  ∀ (s : State) (rest : List Request), s.pending = .host (.ask .currentRomPageIndex) :: rest →
    (s.paging.specialPagingMode = false → ∃ bank : BitVec 2,
      bank.toNat = 2 * s.paging.romHigh.toNat + s.paging.romLow.toNat ∧
      step s = .next { s with pending := rest, reply := .romPage bank, events := [] }) ∧
    (s.paging.specialPagingMode = true →
      step s = .next { s with
        pending := rest, reply := .romPage 0, events := [], romIndexInSpecialMode := true })

/-- 95_test_vectors.md L1-3 with 90_conflicts.md C4: a special-mode write selects configuration `v1[2:1]` and keeps the
two ROM bits; a normal-mode write after it leaves special mode, keeps the configuration, and shows the ROM bank
`{v2[2], romLow}`, which is the bank latched before when `v2[2]` is the old high bit. -/
def Obligations.SpecialModeRoundTrip : Prop :=
  ∀ (port1 port2 : Port) (v1 v2 : Byte) (s : State), s.paging.pagingPermanentlyDisabled = false →
    v1.getLsbD 0 = true → v2.getLsbD 0 = false →
    ∃ t u : State, exec (.outPageSec port1 v1) s = .next t ∧ exec (.outPageSec port2 v2) t = .next u ∧
      t.paging.specialPagingMode = true ∧ t.paging.pagingConfiguration = v1.extractLsb' 1 2 ∧
      t.paging.romHigh = s.paging.romHigh ∧ t.paging.romLow = s.paging.romLow ∧
      u.paging.specialPagingMode = false ∧ u.paging.pagingConfiguration = v1.extractLsb' 1 2 ∧
      (romPageIndexValue u).toNat = 2 * (v2.getLsbD 2).toNat + s.paging.romLow.toNat ∧
      (v2.extractLsb' 2 1 = s.paging.romHigh → romBank u.paging = romBank s.paging)

/-- R111: the layout the memory collaborator resolves. That the window is the RAM segment's, and the ROM bank has no
place in a layout, is the model's choice (log entry 35). -/
def Obligations.MemoryLayoutResolution : Prop :=
  ∀ (c : Params) (s : State),
    (s.paging.specialPagingMode = true →
      memoryLayout c s = .special
        (c.specialTable[s.paging.pagingConfiguration.toNat]'(s.paging.pagingConfiguration.isLt))) ∧
    (s.paging.specialPagingMode = false →
      memoryLayout c s = .normal (s.paging.romHigh ++ s.paging.romLow) s.paging.ramBank c.pagedWindow)

/-! ## Writes -/

/-- 43_port_write.md R143, R144 and R145: an even write that is on no paging port completes: the flush first and only
when the colour, the latch's low three bits (decision D10), changes, then the latch, then the buzzer level, always
(decision D11, log entry 16). -/
def Obligations.UlaWriteResult : Prop :=
  (∀ (port : Port) (v : Byte) (s : State),
    exec (.outUla port v) s = .next { s with
      lastUlaOut := v
      reply := .none
      events := if v.extractLsb' 0 3 = s.lastUlaOut.extractLsb' 0 3
        then [.notify port, .buzzer (v.getLsbD 4)]
        else [.notify port, .flushBorderBuffer s.inputs.frameCycle, .buzzer (v.getLsbD 4)] }) ∧
  (∀ w : TxWord, w.extractLsb' 24 2 = 0b01#2 → w.getLsbD (8 + 0) = false →
    pagingPort hardware (w.extractLsb' 8 16) = false →
    decode hardware w = .outUla (w.extractLsb' 8 16) (w.extractLsb' 0 8))

/-- R144 over any sequence: as many ULA writes as one likes, at any even non-paging ports, flush the border exactly as
often as the written colour differs from the one before it, from the latched colour on. -/
def Obligations.BorderFlushesCountColourChanges : Prop :=
  ∀ (writes : List (Port × Byte × Inputs)) (rest : List Request) (s : State),
    (∀ x ∈ writes, x.1.getLsbD 0 = false ∧ pagingPort hardware x.1 = false) →
    s.pending = writesTo writes ++ rest →
    (eventsOfRun writes.length s).countP isFlush =
      colourChanges (s.lastUlaOut.extractLsb' 0 3) (writes.map (fun x => x.2.1))

/-- R146: a sound register select completes, in any build with its penalty; bits 7 to 4 are ignored. -/
def Obligations.SoundSelectResult : Prop :=
  (∀ (port : Port) (v : Byte) (s : State),
    exec (.outSndSel port v) s = .next { s with
      soundSel := v.extractLsb' 0 4
      reply := .none
      events := [.notify port, .soundSelect (v.extractLsb' 0 4), .cyclePenalty 3] }) ∧
  (∀ (c : Params) (port : Port) (v : Byte) (s : State),
    execFor c (.outSndSel port v) s = .next { s with
      soundSel := v.extractLsb' 0 4
      reply := .none
      events := [.notify port, .soundSelect (v.extractLsb' 0 4), .cyclePenalty c.sndPenalty] }) ∧
  (∀ w : TxWord, w.extractLsb' 24 2 = 0b01#2 → w.getLsbD (8 + 0) = true →
    soundSelect hardware (w.extractLsb' 8 16) = true →
    decode hardware w = .outSndSel (w.extractLsb' 8 16) (w.extractLsb' 0 8))

/-- R147: a sound register write completes, in any build with its penalty; the selected register takes all 8 bits, every other keeps its value. -/
def Obligations.SoundDataResult : Prop :=
  (∀ (c : Params) (port : Port) (v : Byte) (s : State), ∃ regs : Vector Byte 16,
    exec (.outSndDat port v) s = .next { s with
      soundReg := regs
      reply := .none
      events := [.notify port, .soundWrite s.soundSel v, .cyclePenalty 3] } ∧
    execFor c (.outSndDat port v) s = .next { s with
      soundReg := regs
      reply := .none
      events := [.notify port, .soundWrite s.soundSel v, .cyclePenalty c.sndPenalty] } ∧
    ∀ i : Fin 16, regs[i] = if i.val = s.soundSel.toNat then v else s.soundReg[i]) ∧
  (∀ w : TxWord, w.extractLsb' 24 2 = 0b01#2 → w.getLsbD (8 + 0) = true →
    soundData hardware (w.extractLsb' 8 16) = true →
    decode hardware w = .outSndDat (w.extractLsb' 8 16) (w.extractLsb' 0 8))

/-- 95_test_vectors.md L1-6 and P4: select a register, write it, select another, write that, select the first again: a
read at either activation pattern returns what was written to the first. -/
def Obligations.SoundRegisterRoundTrip : Prop :=
  ∀ (p1 p2 p3 p4 p5 p6 : Port) (i v j w k : Byte) (s : State),
    i.extractLsb' 0 4 ≠ j.extractLsb' 0 4 → k.extractLsb' 0 4 = i.extractLsb' 0 4 →
    ∃ s1 s2 s3 s4 s5 s6 s7 : State,
      exec (.outSndSel p1 i) s = .next s1 ∧ exec (.outSndDat p2 v) s1 = .next s2 ∧
      exec (.outSndSel p3 j) s2 = .next s3 ∧ exec (.outSndDat p4 w) s3 = .next s4 ∧
      exec (.outSndSel p5 k) s4 = .next s5 ∧
      exec (.inSoundA p6) s5 = .next s6 ∧ s6.reply = .byte v ∧
      exec (.inSoundB p6) s5 = .next s7 ∧ s7.reply = .byte v

/-- R148 and R188: `CyclePenalty(3)` comes out of a transaction exactly when it is a sound select or a sound write, and
no other penalty ever does. -/
def Obligations.PenaltyExactlyOnSoundWrites : Prop :=
  ∀ (s : State) (w : TxWord) (inputs : Inputs) (rest : List Request) (n : Nat),
    s.pending = .transaction w inputs :: rest →
    ∃ t : State, step s = .next t ∧
      (Event.cyclePenalty n ∈ t.events ↔
        n = 3 ∧ ∃ (port : Port) (v : Byte),
          decode hardware w = .outSndSel port v ∨ decode hardware w = .outSndDat port v)

/-- R149: an odd write that no pattern matches completes and changes nothing. -/
def Obligations.AbsorbedWriteResult : Prop :=
  (∀ (port : Port) (v : Byte) (s : State),
    exec (.outAbsorbed port v) s = .next { s with reply := .none, events := [.notify port] }) ∧
  (∀ w : TxWord, w.extractLsb' 24 2 = 0b01#2 → w.getLsbD (8 + 0) = true →
    pagingPort hardware (w.extractLsb' 8 16) = false → soundSelect hardware (w.extractLsb' 8 16) = false →
    soundData hardware (w.extractLsb' 8 16) = false →
    decode hardware w = .outAbsorbed (w.extractLsb' 8 16) (w.extractLsb' 0 8))

/-- R141 and R150, with the Writes lines of R101 to R104, R143, R146, R147 and R149, for all six write classes: the
frame. A write completes, returns nothing, emits its `Notify` first, leaves the flag alone, and changes only the fields
of its own class. -/
def Obligations.WriteFrame : Prop :=
  ∀ (i : Instr) (s : State), i.kind = 0b01#2 →
    ∃ t : State, exec i s = .next t ∧ t.reply = .none ∧ t.events.head? = some (.notify i.port) ∧
      t.inputRead = s.inputRead ∧ t.romIndexInSpecialMode = s.romIndexInSpecialMode ∧
      t.inputs = s.inputs ∧ t.pending = s.pending ∧
      (t.paging = s.paging ∨ ∃ p v, i = .outPagePri p v ∨ i = .outPageSec p v) ∧
      (t.lastUlaOut = s.lastUlaOut ∨ ∃ p v, i = .outUla p v) ∧
      (t.soundSel = s.soundSel ∨ ∃ p v, i = .outSndSel p v) ∧
      (t.soundReg = s.soundReg ∨ ∃ p v, i = .outSndDat p v)

/-! ## Resets -/

/-- 70_reset_and_hazards.md R180: a power-on reset completes with every field at its power-on value, the lock and the
fault mark cleared, and no event; what is asked next and the lines are the environment's and stay. -/
def Obligations.PowerOnResetResult : Prop :=
  ∀ s : State, exec .resetPoweron s = .next {
    paging := {
      ramBank := 0, romLow := 0, romHigh := 0, shadowScreenSelected := false, pagingPermanentlyDisabled := false,
      specialPagingMode := false, pagingConfiguration := 0, diskMotorOn := false, printerStrobe := false }
    lastUlaOut := 0x00
    inputRead := false
    soundSel := 0
    soundReg := #v[0, 0, 0, 0, 0, 0, 0, 0, 0, 0, 0, 0, 0, 0, 0, 0]
    romIndexInSpecialMode := false
    inputs := s.inputs
    reply := .none
    events := []
    pending := s.pending }

/-- R181: a soft reset completes as a power-on does, but the lock and the fault mark stay as they were. -/
def Obligations.SoftResetResult : Prop :=
  ∀ s : State, ∃ t : State, exec .resetPoweron s = .next t ∧
    exec .resetSoft s = .next { t with
      paging := { t.paging with pagingPermanentlyDisabled := s.paging.pagingPermanentlyDisabled }
      romIndexInSpecialMode := s.romIndexInSpecialMode }

/-- R182 under the default `P_AUX_GATED` = true (decision D9, log entry 8): with the lock set, a soft reset puts the
other paging fields at their reset values, and however many requests follow, paging writes and further soft resets among
them, they stay there, the aux bits too, until a power-on reset or a restore (R161). -/
def Obligations.LockSurvivesSoftReset : Prop :=
  ∀ s : State, s.paging.pagingPermanentlyDisabled = true → s.pending.all (fun r => !unlocks r) = true →
    ∃ t : State, exec .resetSoft s = .next t ∧
      ∀ n : Nat, ∃ u : State, Sys2Proof.core.run n t = .next u ∧
        u.paging = {
          ramBank := 0, romLow := 0, romHigh := 0, shadowScreenSelected := false, pagingPermanentlyDisabled := true,
          specialPagingMode := false, pagingConfiguration := 0, diskMotorOn := false, printerStrobe := false }

/-- R180 and the table of 10_state.md section 8: the state the model starts in is the one a power-on reset leaves,
field by field. -/
def Obligations.ResetStateIsPowerOnState : Prop :=
  exec .resetPoweron State.reset = .next State.reset ∧
  currentRamPageIndex State.reset = 0 ∧ romPageIndexValue State.reset = 0 ∧
  isSpecialPagingMode State.reset = false ∧ State.reset.paging.pagingPermanentlyDisabled = false ∧
  State.reset.lastUlaOut = 0x00 ∧ State.reset.inputRead = false ∧ State.reset.soundSel = 0 ∧
  State.reset.romIndexInSpecialMode = false

/-! ## The host interface -/

/-- 44_host.md R160: `SnapshotGet()` returns the record of ten fields, changes no state and emits no event. -/
def Obligations.SnapshotGetResult : Prop :=
  ∀ (s : State) (rest : List Request), s.pending = .host .snapshotGet :: rest →
    step s = .next { s with
      pending := rest
      events := []
      reply := .snapshot {
        ramBank := s.paging.ramBank.toNat
        romLow := s.paging.romLow.toNat
        romHigh := s.paging.romHigh.toNat
        shadowScreenSelected := s.paging.shadowScreenSelected.toNat
        pagingPermanentlyDisabled := s.paging.pagingPermanentlyDisabled.toNat
        specialPagingMode := s.paging.specialPagingMode.toNat
        pagingConfiguration := s.paging.pagingConfiguration.toNat
        diskMotorOn := s.paging.diskMotorOn.toNat
        printerStrobe := s.paging.printerStrobe.toNat
        lastUlaOutByte := s.lastUlaOut.toNat } }

/-- R161: a restore whose every field fits writes every field of the record exactly, the lock included, and no other
field, and emits nothing; a restore with a field outside its width is refused, the state stays, and the refusal is
recorded. -/
def Obligations.SnapshotSetResult : Prop :=
  ∀ (s : State) (r : SnapshotRecord) (rest : List Request), s.pending = .host (.snapshotSet r) :: rest →
    (r.ramBank ≤ 7 ∧ r.romLow ≤ 1 ∧ r.romHigh ≤ 1 ∧ r.shadowScreenSelected ≤ 1 ∧ r.pagingPermanentlyDisabled ≤ 1 ∧
        r.specialPagingMode ≤ 1 ∧ r.pagingConfiguration ≤ 3 ∧ r.diskMotorOn ≤ 1 ∧ r.printerStrobe ≤ 1 ∧
        r.lastUlaOutByte ≤ 0xFF →
      ∃ (p : PagingState) (latch : Byte),
        step s = .next { s with pending := rest, paging := p, lastUlaOut := latch, reply := .none, events := [] } ∧
        p.ramBank.toNat = r.ramBank ∧ p.romLow.toNat = r.romLow ∧ p.romHigh.toNat = r.romHigh ∧
        p.shadowScreenSelected.toNat = r.shadowScreenSelected ∧
        p.pagingPermanentlyDisabled.toNat = r.pagingPermanentlyDisabled ∧
        p.specialPagingMode.toNat = r.specialPagingMode ∧
        p.pagingConfiguration.toNat = r.pagingConfiguration ∧
        p.diskMotorOn.toNat = r.diskMotorOn ∧ p.printerStrobe.toNat = r.printerStrobe ∧
        latch.toNat = r.lastUlaOutByte) ∧
    (¬ (r.ramBank ≤ 7 ∧ r.romLow ≤ 1 ∧ r.romHigh ≤ 1 ∧ r.shadowScreenSelected ≤ 1 ∧
        r.pagingPermanentlyDisabled ≤ 1 ∧ r.specialPagingMode ≤ 1 ∧ r.pagingConfiguration ≤ 3 ∧ r.diskMotorOn ≤ 1 ∧
        r.printerStrobe ≤ 1 ∧ r.lastUlaOutByte ≤ 0xFF) →
      step s = .next { s with pending := rest, reply := .restoreRefused, events := [] })

/-- R162 and 95_test_vectors.md L1-7: `SnapshotSet(SnapshotGet())` leaves the state unchanged; `SnapshotGet()` after a
restore returns the record; and a snapshot restored into any other state brings back PagingState and the latch and
nothing else. -/
def Obligations.SnapshotRoundTrip : Prop :=
  (∀ s : State, snapshotSet (snapshotOf s) s = s) ∧
  (∀ (r : SnapshotRecord) (s : State), recordFits r = true → snapshotOf (snapshotSet r s) = r) ∧
  (∀ s u : State, snapshotSet (snapshotOf s) u = { u with paging := s.paging, lastUlaOut := s.lastUlaOut })

/-- R165 with R122 and R150: the host's `ClearInputRead()` clears the flag and nothing else, and no read or write of the
CPU clears it. -/
def Obligations.ClearInputReadAndNoAccessClears : Prop :=
  (∀ (s : State) (rest : List Request), s.pending = .host .clearInputRead :: rest →
    step s = .next { s with pending := rest, inputRead := false, reply := .none, events := [] }) ∧
  (∀ (s : State) (w : TxWord) (inputs : Inputs) (rest : List Request),
    s.pending = .transaction w inputs :: rest → w.getLsbD 25 = false → s.inputRead = true →
    ∃ t : State, step s = .next t ∧ t.inputRead = true)

/-! ## The whole machine -/

/-- 00_scope.md R6 and R5: a step whose oldest request is a transaction is `exec` of the class its word decodes to, on
the state with that request taken off the queue and its inputs on the lines; the same of every build, and the machine is
the build with `hardware`. -/
def Obligations.StepRunsTheDecodedInstruction : Prop :=
  (∀ (s : State) (w : TxWord) (inputs : Inputs) (rest : List Request),
    s.pending = .transaction w inputs :: rest →
    step s = exec (decode hardware w) { s with inputs := inputs, pending := rest } ∧
    ∀ c : Params, stepFor c s = execFor c (decode c w) { s with inputs := inputs, pending := rest }) ∧
  (∀ (i : Instr) (s : State), exec i s = execFor hardware i s) ∧
  (∀ s : State, step s = stepFor hardware s)

/-- 60_exceptions.md R178, log entry 5: with nothing asked, a step changes nothing and returns and emits nothing. -/
def Obligations.IdleStepChangesNothing : Prop :=
  ∀ s : State, s.pending = [] → step s = .next { s with reply := .none, events := [] }

/-- 60_exceptions.md R170 and 20_memory.md R44, R48: every transaction, at every port, in every state, completes, in the
machine and in every build of it; a read returns a byte, and a write or a reset returns nothing. No step ever stops, and
each takes the oldest request alone: that the queue, the idle step, the refused restore and the ROM query are steps that
go on is the model's choice (log entries 1, 5, 13 and 12). -/
def Obligations.EveryTransactionCompletes : Prop :=
  (∀ s : State, ∃ t : State, step s = .next t ∧ t.pending = s.pending.tail) ∧
  (∀ (c : Params) (s : State), ∃ t : State, stepFor c s = .next t ∧ t.pending = s.pending.tail) ∧
  (∀ (s : State) (w : TxWord) (inputs : Inputs) (rest : List Request),
    s.pending = .transaction w inputs :: rest →
    (∃ t : State, step s = .next t ∧
      (w.extractLsb' 24 2 = 0b00#2 → ∃ v : Byte, t.reply = .byte v) ∧
      (w.extractLsb' 24 2 ≠ 0b00#2 → t.reply = .none)) ∧
    ∀ c : Params, ∃ t : State, stepFor c s = .next t ∧
      (w.extractLsb' 24 2 = 0b00#2 → ∃ v : Byte, t.reply = .byte v) ∧
      (w.extractLsb' 24 2 ≠ 0b00#2 → t.reply = .none))

/-- 42_port_read.md R120 and 43_port_write.md R140: running the decoded class of a read or write word is running the
spec's `ReadPort` or `WritePort` on its port and data, in the machine and in every build. -/
def Obligations.DecodedClassesRefineThePorts : Prop :=
  ∀ (s : State) (w : TxWord) (inputs : Inputs) (rest : List Request),
    s.pending = .transaction w inputs :: rest →
    (w.extractLsb' 24 2 = 0b00#2 →
      step s = .next (readPort hardware (w.extractLsb' 8 16) { s with inputs := inputs, pending := rest })) ∧
    (w.extractLsb' 24 2 = 0b01#2 →
      step s = .next (writePort hardware (w.extractLsb' 8 16) (w.extractLsb' 0 8)
        { s with inputs := inputs, pending := rest })) ∧
    ∀ c : Params,
      (w.extractLsb' 24 2 = 0b00#2 →
        stepFor c s = .next (readPort c (w.extractLsb' 8 16) { s with inputs := inputs, pending := rest })) ∧
      (w.extractLsb' 24 2 = 0b01#2 →
        stepFor c s = .next (writePort c (w.extractLsb' 8 16) (w.extractLsb' 0 8)
          { s with inputs := inputs, pending := rest }))

/-- R185 with R28, R121 and R122: every step leaves an output in the order the spec fixes: `Notify` first, a flush
before the buzzer, a penalty of 3 last, and a read byte only beside its own `Notify` and with the flag set; so does
every step of any build whose `P_SND_PENALTY` is 3. -/
def Obligations.EveryStepKeepsOutputLegal : Prop :=
  ∀ s t : State, legalOutput s = true →
    (step s = .next t → legalOutput t = true) ∧
    (∀ c : Params, c.sndPenalty = 3 → stepFor c s = .next t → legalOutput t = true)

/-- R163 and R172: while the host keeps to its contract, asking `CurrentRomPageIndex()` only where the requests before
it have left normal mode and never letting the cycle count run backwards, no step sets the fault mark, and the contract
goes on holding; the same of every build. -/
def Obligations.HonestHostNeverMeetsTheFault : Prop :=
  ∀ s t : State,
    (honestHost hardware s = true → step s = .next t → honestHost hardware t = true) ∧
    (∀ c : Params, honestHost c s = true → stepFor c s = .next t → honestHost c t = true)

/-- The invariants of `EveryStepKeepsOutputLegal` and `HonestHostNeverMeetsTheFault` hold at reset (where the events,
the reply, the inputs and the queue are the model's own fields, log entry 3). -/
def Obligations.InvariantsHoldAtReset : Prop :=
  legalOutput State.reset = true ∧ ∀ c : Params, honestHost c State.reset = true

/-- R172: the fault mark is set by asking `CurrentRomPageIndex()` in special mode, and by nothing else; once set, it is
cleared by a power-on reset, and by nothing else. -/
def Obligations.FaultMarkIsSticky : Prop :=
  ∀ s t : State, step s = .next t →
    (t.romIndexInSpecialMode = true ↔
      (s.romIndexInSpecialMode = true ∧
        ¬ ∃ w inputs rest, s.pending = .transaction w inputs :: rest ∧ w.extractLsb' 24 2 = 0b10#2) ∨
      (s.paging.specialPagingMode = true ∧ ∃ rest, s.pending = .host (.ask .currentRomPageIndex) :: rest))

/-- 90_conflicts.md C10 with R91 and R130: PagingState changes only by a write word on a paging port, a reset word, or a
restore. -/
def Obligations.PagingChangesOnlyByItsOwners : Prop :=
  ∀ s t : State, step s = .next t → t.paging ≠ s.paging →
    (∃ w inputs rest, s.pending = .transaction w inputs :: rest ∧
      ((w.extractLsb' 24 2 = 0b01#2 ∧ pagingPort hardware (w.extractLsb' 8 16) = true) ∨ w.getLsbD 25 = true)) ∨
    (∃ r rest, s.pending = .host (.snapshotSet r) :: rest)

/-- R21, R24, R25 and R91: the latch changes only by a ULA write, a reset or a restore, and the sound file only by a
sound write or a reset. -/
def Obligations.LatchAndSoundChangeOnlyByTheirOwners : Prop :=
  ∀ s t : State, step s = .next t →
    (t.lastUlaOut ≠ s.lastUlaOut →
      (∃ w inputs rest, s.pending = .transaction w inputs :: rest ∧
        ((∃ port, decode hardware w = .outUla port t.lastUlaOut) ∨ w.getLsbD 25 = true)) ∨
      (∃ r rest, s.pending = .host (.snapshotSet r) :: rest)) ∧
    (t.soundSel ≠ s.soundSel → ∃ w inputs rest, s.pending = .transaction w inputs :: rest ∧
      ((∃ port v, decode hardware w = .outSndSel port v ∧ t.soundSel = v.extractLsb' 0 4) ∨ w.getLsbD 25 = true)) ∧
    (t.soundReg ≠ s.soundReg → ∃ w inputs rest, s.pending = .transaction w inputs :: rest ∧
      ((∃ port v, decode hardware w = .outSndDat port v) ∨ w.getLsbD 25 = true))

/-- R27 and R164: no input is kept from one transaction to the next: what lines the state held before a transaction
makes no difference to it. -/
def Obligations.EarlierInputsAreNotSeen : Prop :=
  ∀ (s : State) (w : TxWord) (inputs stale : Inputs) (rest : List Request),
    s.pending = .transaction w inputs :: rest → step { s with inputs := stale } = step s
end

