-- ==== Sys2Proof/Laws/Build.lean ====
section
/-!
SUPPORT. The builds of the block (spec 00_scope.md R5): `exec` and `step` are the build with `hardware`, and what each
kind of request makes of a step of any build.
-/

namespace Sys2Proof.Machine

/-- `exec` is the meaning in the build with `hardware`. -/
theorem execFor_hardware (i : Instr) (s : State) : execFor hardware i s = exec i s := by
  cases i <;> rfl

/-- `step` is the step of the build with `hardware`. -/
theorem stepFor_hardware (s : State) : stepFor hardware s = step s := by
  have h : execFor hardware = exec := funext fun i => funext fun t => execFor_hardware i t
  rw [stepFor, h, step]

/-- A step that takes a transaction. -/
theorem stepFor_transaction (c : Params) (s : State) (w : TxWord) (inputs : Inputs) (rest : List Request)
    (h : s.pending = .transaction w inputs :: rest) :
    stepFor c s = execFor c (decode c w) (accept inputs rest s) := by
  simp only [stepFor, runNext, h, runRequest]

/-- A step that takes a host call. -/
theorem stepFor_host (c : Params) (s : State) (call : HostCall) (rest : List Request)
    (h : s.pending = .host call :: rest) : stepFor c s = .next (hostCall call (dequeue rest s)) := by
  simp only [stepFor, runNext, h, runRequest]

/-- A step with nothing asked. -/
theorem stepFor_idle (c : Params) (s : State) (h : s.pending = []) : stepFor c s = .next (beginSilent s) := by
  rw [stepFor, runNext, h]

/-- Every class of every build answers a next state, and leaves the queue and the inputs alone. -/
theorem execFor_next (c : Params) (i : Instr) (s : State) :
    ∃ t, execFor c i s = .next t ∧ t.pending = s.pending ∧ t.inputs = s.inputs := by
  cases i <;> refine ⟨_, rfl, ?_, ?_⟩ <;>
    first | rfl | (simp only [ulaWrite, flushOnColourChange]; split <;> rfl)

end Sys2Proof.Machine
end

