-- ==== Sys2Proof/Laws/Decode.lean ====
section
/-!
SUPPORT. The fields of an assembled word (spec 30_encoding.md R60), and the bits of a word's fields.
-/

namespace Sys2Proof

/-- The bits of an assembled word, field by field. -/
theorem txWord_getLsbD (kind : BitVec 2) (port : Port) (data : Byte) (k : Nat) :
    (txWord kind port data).getLsbD k =
      if k < 8 then data.getLsbD k
      else if k < 24 then port.getLsbD (k - 8)
      else kind.getLsbD (k - 24) := by
  simp only [txWord]
  rw [BitVec.getLsbD_append, BitVec.getLsbD_append]
  by_cases h1 : k < 8
  · have h2 : k < 16 + 8 := by omega
    simp [h1, h2]
  · by_cases h2 : k < 24
    · have h3 : k < 16 + 8 := by omega
      simp [h1, h2]
    · have h3 : ¬ k < 16 + 8 := by omega
      simp [h1, h2]

/-- `KIND` of an assembled word. -/
@[simp] theorem kindOf_txWord (kind : BitVec 2) (port : Port) (data : Byte) :
    kindOf (txWord kind port data) = kind := by
  apply BitVec.eq_of_getLsbD_eq
  intro i hi
  have h1 : ¬ 24 + i < 8 := by omega
  have h2 : ¬ 24 + i < 24 := by omega
  simp [kindOf, txWord_getLsbD, hi, h1]

/-- `PORT` of an assembled word. -/
@[simp] theorem portOf_txWord (kind : BitVec 2) (port : Port) (data : Byte) :
    portOf (txWord kind port data) = port := by
  apply BitVec.eq_of_getLsbD_eq
  intro i hi
  have h2 : 8 + i < 24 := by omega
  simp [portOf, txWord_getLsbD, hi, h2]

/-- `DATA` of an assembled word. -/
@[simp] theorem dataOf_txWord (kind : BitVec 2) (port : Port) (data : Byte) :
    dataOf (txWord kind port data) = data := by
  apply BitVec.eq_of_getLsbD_eq
  intro i hi
  simp [dataOf, txWord_getLsbD, hi]

/-- A word is assembled from its own fields. -/
theorem txWord_fields (w : TxWord) : txWord (kindOf w) (portOf w) (dataOf w) = w := by
  apply BitVec.eq_of_getLsbD_eq
  intro i hi
  rw [txWord_getLsbD]
  simp only [kindOf, portOf, dataOf, BitVec.getLsbD_extractLsb']
  by_cases h1 : i < 8
  · simp [h1]
  · by_cases h2 : i < 24
    · have h3 : i - 8 < 16 := by omega
      have h4 : 8 + (i - 8) = i := by omega
      simp [h1, h2, h3, h4]
    · have h3 : i - 24 < 2 := by omega
      have h4 : 24 + (i - 24) = i := by omega
      simp [h1, h2, h3, h4]

/-- Bit `i` of the port is bit `8 + i` of the word (R60). -/
theorem portOf_getLsbD (w : TxWord) (i : Nat) (hi : i < 16) : (portOf w).getLsbD i = w.getLsbD (8 + i) := by
  simp [portOf, hi]

/-- `KIND` has the four values of R61 and no other. -/
theorem kind_cases (k : BitVec 2) : k = 0b00#2 ∨ k = 0b01#2 ∨ k = 0b10#2 ∨ k = 0b11#2 := by
  revert k; decide

/-- A read class keeps its port and has `KIND` 0b00. -/
theorem decodeRead_port (c : Params) (port : Port) :
    (decodeRead c port).port = port ∧ (decodeRead c port).data = 0 ∧ (decodeRead c port).kind = 0b00#2 := by
  unfold decodeRead
  repeat' split
  all_goals exact ⟨rfl, rfl, rfl⟩

/-- A write class keeps its port and data and has `KIND` 0b01. -/
theorem decodeWrite_port (c : Params) (port : Port) (data : Byte) :
    (decodeWrite c port data).port = port ∧ (decodeWrite c port data).data = data ∧
      (decodeWrite c port data).kind = 0b01#2 := by
  unfold decodeWrite
  repeat' split
  all_goals exact ⟨rfl, rfl, rfl⟩

/-- The class has the `KIND` of its word. -/
theorem decode_kind (c : Params) (w : TxWord) : (decode c w).kind = kindOf w := by
  unfold decode
  rcases kind_cases (kindOf w) with h | h | h | h <;> rw [h]
  · exact (decodeRead_port c (portOf w)).2.2
  · exact (decodeWrite_port c (portOf w) (dataOf w)).2.2
  · rfl
  · rfl

end Sys2Proof
end

