-- ==== Sys2Proof/Laws/Operands.lean ====
section
/-!
SUPPORT. The bit operations and the data fields, bit by bit (spec 30_encoding.md R66 to R69, 42_port_read.md R125 to
R127), and the sizes of spec 00_scope.md R5.
-/

namespace Sys2Proof.Machine

/-! ## Bits -/

/-- The one-bit byte `1 << n` has bit `n` alone. -/
theorem one_shiftLeft_getLsbD (n : Fin 8) (k : Nat) :
    (1#8 <<< n.val).getLsbD k = decide (k = n.val) := by
  rw [BitVec.getLsbD_shiftLeft, BitVec.getLsbD_one]
  by_cases h : k = n.val
  · simp [h, n.isLt]
  · simp only [h, decide_false]
    by_cases hlt : k < n.val
    · simp [hlt]
    · have : k - n.val ≠ 0 := by omega
      simp [this]

/-- `v[n] <- b` writes bit `n` and no other. -/
theorem setBit_getLsbD (v : Byte) (n : Fin 8) (b : Bool) (k : Nat) (hk : k < 8) :
    (setBit v n b).getLsbD k = if k = n.val then b else v.getLsbD k := by
  cases b <;> simp only [setBit, if_true, Bool.false_eq_true, if_false, BitVec.getLsbD_or, BitVec.getLsbD_and,
    BitVec.getLsbD_not, one_shiftLeft_getLsbD n k, decide_eq_true hk, Bool.true_and] <;>
    by_cases h : k = n.val <;> simp [h]

/-- A half-row is selected when its address bit is 0 (R90). -/
theorem rowSelected_iff (port : Port) (i : Fin 8) :
    rowSelected port i = true ↔ port.getLsbD (8 + i) = false := by
  simp [rowSelected, bitReset]

/-- Every half-row is in the list the row AND runs over. -/
theorem mem_halfRows (i : Fin 8) : i ∈ halfRows := by
  revert i; decide

/-- A match is the conjunction of its bits: the pattern's bit where the mask has a 1, and no pattern bit elsewhere. -/
theorem matchPort_iff (port : Port) (p : PortPattern) :
    matchPort port p = true ↔ ∀ k : Nat, k < 16 → (port.getLsbD k && p.mask.getLsbD k) = p.pattern.getLsbD k := by
  simp only [matchPort, beq_iff_eq]
  constructor
  · intro h k _
    rw [← h, BitVec.getLsbD_and]
  · intro h
    apply BitVec.eq_of_getLsbD_eq
    intro k hk
    rw [BitVec.getLsbD_and, h k hk]

/-! ## The ROM bank -/

/-- The ROM bank as a number: the high bit has weight 2 (R14). -/
theorem romBank_toNat (p : PagingState) : (romBank p).toNat = 2 * p.romHigh.toNat + p.romLow.toNat := by
  have hl : p.romLow.toNat < 2 ^ 1 := p.romLow.isLt
  simp only [romBank, BitVec.toNat_append]
  rw [← Nat.shiftLeft_add_eq_or_of_lt hl, Nat.shiftLeft_eq]
  omega

/-! ## The sizes of R5 -/

/-- In a well-formed build every index is in the range its size gives: none can be out of range (R112). -/
theorem indices_in_range (z : Sizes) (hz : z.wellFormed = true) (p : PagingState) (i : BitVec 4) :
    p.ramBank.toNat < z.ramBanks ∧ (romBank p).toNat < z.romBanks ∧ p.pagingConfiguration.toNat < z.specialConfigs ∧
      i.toNat < z.soundRegs := by
  simp only [Sizes.wellFormed, Bool.and_eq_true, beq_iff_eq] at hz
  obtain ⟨⟨⟨⟨⟨-, -⟩, h1⟩, h2⟩, h3⟩, h4⟩ := hz
  rw [h1, h2, h3, h4]
  exact ⟨p.ramBank.isLt, (romBank p).isLt, p.pagingConfiguration.isLt, i.isLt⟩

/-- In a well-formed build a transaction word has 26 bits (R72). -/
theorem wordWidth_wellFormed (z : Sizes) (hz : z.wellFormed = true) : z.wordWidth = 26 := by
  simp only [Sizes.wellFormed, Bool.and_eq_true, beq_iff_eq] at hz
  simp [Sizes.wordWidth, hz.1.1.1.1.1, hz.1.1.1.1.2]

/-- This hardware's parameters are well formed. -/
theorem hardware_wellFormed : hardware.wellFormed = true := by decide

end Sys2Proof.Machine
end

