-- ==== Sys2Proof/Laws/State.lean ====
section
/-!
SUPPORT. What each update of the state does to each field, one lemma per field per update, so that no proof unfolds a
record update.
-/

namespace Sys2Proof.Machine

/-! ## beginRead -/

@[simp] theorem beginRead_paging (port : Port) (s : State) : (beginRead port s).paging = s.paging := rfl

@[simp] theorem beginRead_lastUlaOut (port : Port) (s : State) : (beginRead port s).lastUlaOut = s.lastUlaOut := rfl

@[simp] theorem beginRead_inputRead (port : Port) (s : State) : (beginRead port s).inputRead = true := rfl

@[simp] theorem beginRead_soundSel (port : Port) (s : State) : (beginRead port s).soundSel = s.soundSel := rfl

@[simp] theorem beginRead_soundReg (port : Port) (s : State) : (beginRead port s).soundReg = s.soundReg := rfl

@[simp] theorem beginRead_romIndexInSpecialMode (port : Port) (s : State) :
    (beginRead port s).romIndexInSpecialMode = s.romIndexInSpecialMode := rfl

@[simp] theorem beginRead_inputs (port : Port) (s : State) : (beginRead port s).inputs = s.inputs := rfl

@[simp] theorem beginRead_reply (port : Port) (s : State) : (beginRead port s).reply = .none := rfl

@[simp] theorem beginRead_events (port : Port) (s : State) : (beginRead port s).events = [.notify port] := rfl

@[simp] theorem beginRead_pending (port : Port) (s : State) : (beginRead port s).pending = s.pending := rfl

/-! ## beginWrite -/

@[simp] theorem beginWrite_paging (port : Port) (s : State) : (beginWrite port s).paging = s.paging := rfl

@[simp] theorem beginWrite_lastUlaOut (port : Port) (s : State) : (beginWrite port s).lastUlaOut = s.lastUlaOut := rfl

@[simp] theorem beginWrite_inputRead (port : Port) (s : State) : (beginWrite port s).inputRead = s.inputRead := rfl

@[simp] theorem beginWrite_soundSel (port : Port) (s : State) : (beginWrite port s).soundSel = s.soundSel := rfl

@[simp] theorem beginWrite_soundReg (port : Port) (s : State) : (beginWrite port s).soundReg = s.soundReg := rfl

@[simp] theorem beginWrite_romIndexInSpecialMode (port : Port) (s : State) :
    (beginWrite port s).romIndexInSpecialMode = s.romIndexInSpecialMode := rfl

@[simp] theorem beginWrite_inputs (port : Port) (s : State) : (beginWrite port s).inputs = s.inputs := rfl

@[simp] theorem beginWrite_reply (port : Port) (s : State) : (beginWrite port s).reply = .none := rfl

@[simp] theorem beginWrite_events (port : Port) (s : State) : (beginWrite port s).events = [.notify port] := rfl

@[simp] theorem beginWrite_pending (port : Port) (s : State) : (beginWrite port s).pending = s.pending := rfl

/-! ## beginSilent -/

@[simp] theorem beginSilent_paging (s : State) : (beginSilent s).paging = s.paging := rfl

@[simp] theorem beginSilent_lastUlaOut (s : State) : (beginSilent s).lastUlaOut = s.lastUlaOut := rfl

@[simp] theorem beginSilent_inputRead (s : State) : (beginSilent s).inputRead = s.inputRead := rfl

@[simp] theorem beginSilent_soundSel (s : State) : (beginSilent s).soundSel = s.soundSel := rfl

@[simp] theorem beginSilent_soundReg (s : State) : (beginSilent s).soundReg = s.soundReg := rfl

@[simp] theorem beginSilent_romIndexInSpecialMode (s : State) :
    (beginSilent s).romIndexInSpecialMode = s.romIndexInSpecialMode := rfl

@[simp] theorem beginSilent_inputs (s : State) : (beginSilent s).inputs = s.inputs := rfl

@[simp] theorem beginSilent_reply (s : State) : (beginSilent s).reply = .none := rfl

@[simp] theorem beginSilent_events (s : State) : (beginSilent s).events = [] := rfl

@[simp] theorem beginSilent_pending (s : State) : (beginSilent s).pending = s.pending := rfl

/-! ## emit -/

@[simp] theorem emit_paging (e : Event) (s : State) : (emit e s).paging = s.paging := rfl

@[simp] theorem emit_lastUlaOut (e : Event) (s : State) : (emit e s).lastUlaOut = s.lastUlaOut := rfl

@[simp] theorem emit_inputRead (e : Event) (s : State) : (emit e s).inputRead = s.inputRead := rfl

@[simp] theorem emit_soundSel (e : Event) (s : State) : (emit e s).soundSel = s.soundSel := rfl

@[simp] theorem emit_soundReg (e : Event) (s : State) : (emit e s).soundReg = s.soundReg := rfl

@[simp] theorem emit_romIndexInSpecialMode (e : Event) (s : State) :
    (emit e s).romIndexInSpecialMode = s.romIndexInSpecialMode := rfl

@[simp] theorem emit_inputs (e : Event) (s : State) : (emit e s).inputs = s.inputs := rfl

@[simp] theorem emit_reply (e : Event) (s : State) : (emit e s).reply = s.reply := rfl

@[simp] theorem emit_events (e : Event) (s : State) : (emit e s).events = s.events ++ [e] := rfl

@[simp] theorem emit_pending (e : Event) (s : State) : (emit e s).pending = s.pending := rfl

/-! ## setReply -/

@[simp] theorem setReply_paging (r : Reply) (s : State) : (setReply r s).paging = s.paging := rfl

@[simp] theorem setReply_lastUlaOut (r : Reply) (s : State) : (setReply r s).lastUlaOut = s.lastUlaOut := rfl

@[simp] theorem setReply_inputRead (r : Reply) (s : State) : (setReply r s).inputRead = s.inputRead := rfl

@[simp] theorem setReply_soundSel (r : Reply) (s : State) : (setReply r s).soundSel = s.soundSel := rfl

@[simp] theorem setReply_soundReg (r : Reply) (s : State) : (setReply r s).soundReg = s.soundReg := rfl

@[simp] theorem setReply_romIndexInSpecialMode (r : Reply) (s : State) :
    (setReply r s).romIndexInSpecialMode = s.romIndexInSpecialMode := rfl

@[simp] theorem setReply_inputs (r : Reply) (s : State) : (setReply r s).inputs = s.inputs := rfl

@[simp] theorem setReply_reply (r : Reply) (s : State) : (setReply r s).reply = r := rfl

@[simp] theorem setReply_events (r : Reply) (s : State) : (setReply r s).events = s.events := rfl

@[simp] theorem setReply_pending (r : Reply) (s : State) : (setReply r s).pending = s.pending := rfl

/-! ## answer -/

@[simp] theorem answer_paging (v : Byte) (s : State) : (answer v s).paging = s.paging := rfl

@[simp] theorem answer_lastUlaOut (v : Byte) (s : State) : (answer v s).lastUlaOut = s.lastUlaOut := rfl

@[simp] theorem answer_inputRead (v : Byte) (s : State) : (answer v s).inputRead = s.inputRead := rfl

@[simp] theorem answer_soundSel (v : Byte) (s : State) : (answer v s).soundSel = s.soundSel := rfl

@[simp] theorem answer_soundReg (v : Byte) (s : State) : (answer v s).soundReg = s.soundReg := rfl

@[simp] theorem answer_romIndexInSpecialMode (v : Byte) (s : State) :
    (answer v s).romIndexInSpecialMode = s.romIndexInSpecialMode := rfl

@[simp] theorem answer_inputs (v : Byte) (s : State) : (answer v s).inputs = s.inputs := rfl

@[simp] theorem answer_reply (v : Byte) (s : State) : (answer v s).reply = .byte v := rfl

@[simp] theorem answer_events (v : Byte) (s : State) : (answer v s).events = s.events := rfl

@[simp] theorem answer_pending (v : Byte) (s : State) : (answer v s).pending = s.pending := rfl

/-! ## setPaging -/

@[simp] theorem setPaging_paging (p : PagingState) (s : State) : (setPaging p s).paging = p := rfl

@[simp] theorem setPaging_lastUlaOut (p : PagingState) (s : State) : (setPaging p s).lastUlaOut = s.lastUlaOut := rfl

@[simp] theorem setPaging_inputRead (p : PagingState) (s : State) : (setPaging p s).inputRead = s.inputRead := rfl

@[simp] theorem setPaging_soundSel (p : PagingState) (s : State) : (setPaging p s).soundSel = s.soundSel := rfl

@[simp] theorem setPaging_soundReg (p : PagingState) (s : State) : (setPaging p s).soundReg = s.soundReg := rfl

@[simp] theorem setPaging_romIndexInSpecialMode (p : PagingState) (s : State) :
    (setPaging p s).romIndexInSpecialMode = s.romIndexInSpecialMode := rfl

@[simp] theorem setPaging_inputs (p : PagingState) (s : State) : (setPaging p s).inputs = s.inputs := rfl

@[simp] theorem setPaging_reply (p : PagingState) (s : State) : (setPaging p s).reply = s.reply := rfl

@[simp] theorem setPaging_events (p : PagingState) (s : State) : (setPaging p s).events = s.events := rfl

@[simp] theorem setPaging_pending (p : PagingState) (s : State) : (setPaging p s).pending = s.pending := rfl

/-! ## setLastUlaOut -/

@[simp] theorem setLastUlaOut_paging (v : Byte) (s : State) : (setLastUlaOut v s).paging = s.paging := rfl

@[simp] theorem setLastUlaOut_lastUlaOut (v : Byte) (s : State) : (setLastUlaOut v s).lastUlaOut = v := rfl

@[simp] theorem setLastUlaOut_inputRead (v : Byte) (s : State) : (setLastUlaOut v s).inputRead = s.inputRead := rfl

@[simp] theorem setLastUlaOut_soundSel (v : Byte) (s : State) : (setLastUlaOut v s).soundSel = s.soundSel := rfl

@[simp] theorem setLastUlaOut_soundReg (v : Byte) (s : State) : (setLastUlaOut v s).soundReg = s.soundReg := rfl

@[simp] theorem setLastUlaOut_romIndexInSpecialMode (v : Byte) (s : State) :
    (setLastUlaOut v s).romIndexInSpecialMode = s.romIndexInSpecialMode := rfl

@[simp] theorem setLastUlaOut_inputs (v : Byte) (s : State) : (setLastUlaOut v s).inputs = s.inputs := rfl

@[simp] theorem setLastUlaOut_reply (v : Byte) (s : State) : (setLastUlaOut v s).reply = s.reply := rfl

@[simp] theorem setLastUlaOut_events (v : Byte) (s : State) : (setLastUlaOut v s).events = s.events := rfl

@[simp] theorem setLastUlaOut_pending (v : Byte) (s : State) : (setLastUlaOut v s).pending = s.pending := rfl

/-! ## setInputRead -/

@[simp] theorem setInputRead_paging (b : Bool) (s : State) : (setInputRead b s).paging = s.paging := rfl

@[simp] theorem setInputRead_lastUlaOut (b : Bool) (s : State) : (setInputRead b s).lastUlaOut = s.lastUlaOut := rfl

@[simp] theorem setInputRead_inputRead (b : Bool) (s : State) : (setInputRead b s).inputRead = b := rfl

@[simp] theorem setInputRead_soundSel (b : Bool) (s : State) : (setInputRead b s).soundSel = s.soundSel := rfl

@[simp] theorem setInputRead_soundReg (b : Bool) (s : State) : (setInputRead b s).soundReg = s.soundReg := rfl

@[simp] theorem setInputRead_romIndexInSpecialMode (b : Bool) (s : State) :
    (setInputRead b s).romIndexInSpecialMode = s.romIndexInSpecialMode := rfl

@[simp] theorem setInputRead_inputs (b : Bool) (s : State) : (setInputRead b s).inputs = s.inputs := rfl

@[simp] theorem setInputRead_reply (b : Bool) (s : State) : (setInputRead b s).reply = s.reply := rfl

@[simp] theorem setInputRead_events (b : Bool) (s : State) : (setInputRead b s).events = s.events := rfl

@[simp] theorem setInputRead_pending (b : Bool) (s : State) : (setInputRead b s).pending = s.pending := rfl

/-! ## setSoundSel -/

@[simp] theorem setSoundSel_paging (i : BitVec 4) (s : State) : (setSoundSel i s).paging = s.paging := rfl

@[simp] theorem setSoundSel_lastUlaOut (i : BitVec 4) (s : State) : (setSoundSel i s).lastUlaOut = s.lastUlaOut := rfl

@[simp] theorem setSoundSel_inputRead (i : BitVec 4) (s : State) : (setSoundSel i s).inputRead = s.inputRead := rfl

@[simp] theorem setSoundSel_soundSel (i : BitVec 4) (s : State) : (setSoundSel i s).soundSel = i := rfl

@[simp] theorem setSoundSel_soundReg (i : BitVec 4) (s : State) : (setSoundSel i s).soundReg = s.soundReg := rfl

@[simp] theorem setSoundSel_romIndexInSpecialMode (i : BitVec 4) (s : State) :
    (setSoundSel i s).romIndexInSpecialMode = s.romIndexInSpecialMode := rfl

@[simp] theorem setSoundSel_inputs (i : BitVec 4) (s : State) : (setSoundSel i s).inputs = s.inputs := rfl

@[simp] theorem setSoundSel_reply (i : BitVec 4) (s : State) : (setSoundSel i s).reply = s.reply := rfl

@[simp] theorem setSoundSel_events (i : BitVec 4) (s : State) : (setSoundSel i s).events = s.events := rfl

@[simp] theorem setSoundSel_pending (i : BitVec 4) (s : State) : (setSoundSel i s).pending = s.pending := rfl

/-! ## writeSelectedSoundReg -/

@[simp] theorem writeSelectedSoundReg_paging (v : Byte) (s : State) :
    (writeSelectedSoundReg v s).paging = s.paging := rfl

@[simp] theorem writeSelectedSoundReg_lastUlaOut (v : Byte) (s : State) :
    (writeSelectedSoundReg v s).lastUlaOut = s.lastUlaOut := rfl

@[simp] theorem writeSelectedSoundReg_inputRead (v : Byte) (s : State) :
    (writeSelectedSoundReg v s).inputRead = s.inputRead := rfl

@[simp] theorem writeSelectedSoundReg_soundSel (v : Byte) (s : State) :
    (writeSelectedSoundReg v s).soundSel = s.soundSel := rfl

@[simp] theorem writeSelectedSoundReg_soundReg (v : Byte) (s : State) :
    (writeSelectedSoundReg v s).soundReg = s.soundReg.set s.soundSel.toNat v s.soundSel.isLt := rfl

@[simp] theorem writeSelectedSoundReg_romIndexInSpecialMode (v : Byte) (s : State) :
    (writeSelectedSoundReg v s).romIndexInSpecialMode = s.romIndexInSpecialMode := rfl

@[simp] theorem writeSelectedSoundReg_inputs (v : Byte) (s : State) :
    (writeSelectedSoundReg v s).inputs = s.inputs := rfl

@[simp] theorem writeSelectedSoundReg_reply (v : Byte) (s : State) :
    (writeSelectedSoundReg v s).reply = s.reply := rfl

@[simp] theorem writeSelectedSoundReg_events (v : Byte) (s : State) :
    (writeSelectedSoundReg v s).events = s.events := rfl

@[simp] theorem writeSelectedSoundReg_pending (v : Byte) (s : State) :
    (writeSelectedSoundReg v s).pending = s.pending := rfl

/-! ## raiseRomIndexFault -/

@[simp] theorem raiseRomIndexFault_paging (s : State) : (raiseRomIndexFault s).paging = s.paging := rfl

@[simp] theorem raiseRomIndexFault_lastUlaOut (s : State) : (raiseRomIndexFault s).lastUlaOut = s.lastUlaOut := rfl

@[simp] theorem raiseRomIndexFault_inputRead (s : State) : (raiseRomIndexFault s).inputRead = s.inputRead := rfl

@[simp] theorem raiseRomIndexFault_soundSel (s : State) : (raiseRomIndexFault s).soundSel = s.soundSel := rfl

@[simp] theorem raiseRomIndexFault_soundReg (s : State) : (raiseRomIndexFault s).soundReg = s.soundReg := rfl

@[simp] theorem raiseRomIndexFault_romIndexInSpecialMode (s : State) :
    (raiseRomIndexFault s).romIndexInSpecialMode = true := rfl

@[simp] theorem raiseRomIndexFault_inputs (s : State) : (raiseRomIndexFault s).inputs = s.inputs := rfl

@[simp] theorem raiseRomIndexFault_reply (s : State) : (raiseRomIndexFault s).reply = s.reply := rfl

@[simp] theorem raiseRomIndexFault_events (s : State) : (raiseRomIndexFault s).events = s.events := rfl

@[simp] theorem raiseRomIndexFault_pending (s : State) : (raiseRomIndexFault s).pending = s.pending := rfl

/-! ## dequeue -/

@[simp] theorem dequeue_paging (rest : List Request) (s : State) : (dequeue rest s).paging = s.paging := rfl

@[simp] theorem dequeue_lastUlaOut (rest : List Request) (s : State) :
    (dequeue rest s).lastUlaOut = s.lastUlaOut := rfl

@[simp] theorem dequeue_inputRead (rest : List Request) (s : State) : (dequeue rest s).inputRead = s.inputRead := rfl

@[simp] theorem dequeue_soundSel (rest : List Request) (s : State) : (dequeue rest s).soundSel = s.soundSel := rfl

@[simp] theorem dequeue_soundReg (rest : List Request) (s : State) : (dequeue rest s).soundReg = s.soundReg := rfl

@[simp] theorem dequeue_romIndexInSpecialMode (rest : List Request) (s : State) :
    (dequeue rest s).romIndexInSpecialMode = s.romIndexInSpecialMode := rfl

@[simp] theorem dequeue_inputs (rest : List Request) (s : State) : (dequeue rest s).inputs = s.inputs := rfl

@[simp] theorem dequeue_reply (rest : List Request) (s : State) : (dequeue rest s).reply = s.reply := rfl

@[simp] theorem dequeue_events (rest : List Request) (s : State) : (dequeue rest s).events = s.events := rfl

@[simp] theorem dequeue_pending (rest : List Request) (s : State) : (dequeue rest s).pending = rest := rfl

/-! ## accept -/

@[simp] theorem accept_paging (inputs : Inputs) (rest : List Request) (s : State) :
    (accept inputs rest s).paging = s.paging := rfl

@[simp] theorem accept_lastUlaOut (inputs : Inputs) (rest : List Request) (s : State) :
    (accept inputs rest s).lastUlaOut = s.lastUlaOut := rfl

@[simp] theorem accept_inputRead (inputs : Inputs) (rest : List Request) (s : State) :
    (accept inputs rest s).inputRead = s.inputRead := rfl

@[simp] theorem accept_soundSel (inputs : Inputs) (rest : List Request) (s : State) :
    (accept inputs rest s).soundSel = s.soundSel := rfl

@[simp] theorem accept_soundReg (inputs : Inputs) (rest : List Request) (s : State) :
    (accept inputs rest s).soundReg = s.soundReg := rfl

@[simp] theorem accept_romIndexInSpecialMode (inputs : Inputs) (rest : List Request) (s : State) :
    (accept inputs rest s).romIndexInSpecialMode = s.romIndexInSpecialMode := rfl

@[simp] theorem accept_inputs (inputs : Inputs) (rest : List Request) (s : State) :
    (accept inputs rest s).inputs = inputs := rfl

@[simp] theorem accept_reply (inputs : Inputs) (rest : List Request) (s : State) :
    (accept inputs rest s).reply = s.reply := rfl

@[simp] theorem accept_events (inputs : Inputs) (rest : List Request) (s : State) :
    (accept inputs rest s).events = s.events := rfl

@[simp] theorem accept_pending (inputs : Inputs) (rest : List Request) (s : State) :
    (accept inputs rest s).pending = rest := rfl

/-! ## powerOnReset -/

@[simp] theorem powerOnReset_paging (s : State) : (powerOnReset s).paging = PagingState.reset := rfl

@[simp] theorem powerOnReset_lastUlaOut (s : State) : (powerOnReset s).lastUlaOut = 0x00 := rfl

@[simp] theorem powerOnReset_inputRead (s : State) : (powerOnReset s).inputRead = false := rfl

@[simp] theorem powerOnReset_soundSel (s : State) : (powerOnReset s).soundSel = 0 := rfl

@[simp] theorem powerOnReset_soundReg (s : State) : (powerOnReset s).soundReg = Vector.replicate 16 0x00 := rfl

@[simp] theorem powerOnReset_romIndexInSpecialMode (s : State) : (powerOnReset s).romIndexInSpecialMode = false := rfl

@[simp] theorem powerOnReset_inputs (s : State) : (powerOnReset s).inputs = s.inputs := rfl

@[simp] theorem powerOnReset_reply (s : State) : (powerOnReset s).reply = .none := rfl

@[simp] theorem powerOnReset_events (s : State) : (powerOnReset s).events = [] := rfl

@[simp] theorem powerOnReset_pending (s : State) : (powerOnReset s).pending = s.pending := rfl

/-! ## softReset -/

@[simp] theorem softReset_paging (s : State) :
    (softReset s).paging = { PagingState.reset with pagingPermanentlyDisabled := s.paging.pagingPermanentlyDisabled } := rfl

@[simp] theorem softReset_lastUlaOut (s : State) : (softReset s).lastUlaOut = 0x00 := rfl

@[simp] theorem softReset_inputRead (s : State) : (softReset s).inputRead = false := rfl

@[simp] theorem softReset_soundSel (s : State) : (softReset s).soundSel = 0 := rfl

@[simp] theorem softReset_soundReg (s : State) : (softReset s).soundReg = Vector.replicate 16 0x00 := rfl

@[simp] theorem softReset_romIndexInSpecialMode (s : State) :
    (softReset s).romIndexInSpecialMode = s.romIndexInSpecialMode := rfl

@[simp] theorem softReset_inputs (s : State) : (softReset s).inputs = s.inputs := rfl

@[simp] theorem softReset_reply (s : State) : (softReset s).reply = .none := rfl

@[simp] theorem softReset_events (s : State) : (softReset s).events = [] := rfl

@[simp] theorem softReset_pending (s : State) : (softReset s).pending = s.pending := rfl

end Sys2Proof.Machine
end

