-- ==== Sys2Proof/Laws/Ops.lean ====
section
/-!
SUPPORT. One lemma for each shared operation that says all it does.
-/

namespace Sys2Proof.Machine

/-! ## The sound-register file -/

/-- The selected register reads back what was just written to it. -/
@[simp] theorem selectedSoundReg_write (v : Byte) (s : State) :
    selectedSoundReg (writeSelectedSoundReg v s) = v := by
  simp [selectedSoundReg, writeSelectedSoundReg]

/-- Selecting a register and reading it gives that register. -/
theorem selectedSoundReg_setSoundSel (i : BitVec 4) (s : State) :
    selectedSoundReg (setSoundSel i s) = s.soundReg[i.toNat]'(i.isLt) := rfl

/-- A register other than the selected one keeps its value through a write. -/
theorem writeSelectedSoundReg_other (v : Byte) (s : State) (j : BitVec 4) (h : j ≠ s.soundSel) :
    (writeSelectedSoundReg v s).soundReg[j.toNat]'(j.isLt) = s.soundReg[j.toNat]'(j.isLt) := by
  have hne : s.soundSel.toNat ≠ j.toNat := fun e => h (BitVec.eq_of_toNat_eq e.symm)
  simp [writeSelectedSoundReg, Vector.getElem_set_ne, hne]

/-! ## The device writes -/

/-- The border flush adds its event when the colour changes, and changes nothing else. -/
theorem flushOnColourChange_eq (v : Byte) (s : State) :
    flushOnColourChange v s =
      { s with events := s.events ++
          (if borderField v = latchedBorder s then [] else [.flushBorderBuffer s.inputs.frameCycle]) } := by
  by_cases h : borderField v = latchedBorder s <;> simp [flushOnColourChange, h, emit]

/-- A ULA write sets the latch and emits the flush, if any, and the buzzer level. -/
theorem ulaWrite_eq (v : Byte) (s : State) :
    ulaWrite v s =
      { s with
        lastUlaOut := v
        events := s.events ++
          (if borderField v = latchedBorder s then [] else [.flushBorderBuffer s.inputs.frameCycle]) ++
          [.buzzer (earField v)] } := by
  simp [ulaWrite, flushOnColourChange_eq, emit, setLastUlaOut]

/-- A sound select sets the index and emits it and the penalty. -/
theorem soundSelectWrite_eq (c : Params) (v : Byte) (s : State) :
    soundSelectWrite c v s =
      { s with
        soundSel := soundIndexField v
        events := s.events ++ [.soundSelect (soundIndexField v), .cyclePenalty c.sndPenalty] } := by
  simp [soundSelectWrite, emit, setSoundSel]

/-- A sound write sets the selected register and emits the write and the penalty. -/
theorem soundDataWrite_eq (c : Params) (v : Byte) (s : State) :
    soundDataWrite c v s =
      { s with
        soundReg := s.soundReg.set s.soundSel.toNat v s.soundSel.isLt
        events := s.events ++ [.soundWrite s.soundSel v, .cyclePenalty c.sndPenalty] } := by
  simp [soundDataWrite, emit, writeSelectedSoundReg]

/-! ## The paging writes -/

/-- A primary write keeps a set lock set. -/
theorem primaryWrite_lock (v : Byte) (p : PagingState) (h : p.pagingPermanentlyDisabled = true) :
    (primaryWrite v p).pagingPermanentlyDisabled = true := by
  simp [primaryWrite, h]

/-- A secondary write never touches the lock. -/
theorem secondaryWrite_lock (v : Byte) (p : PagingState) :
    (secondaryWrite v p).pagingPermanentlyDisabled = p.pagingPermanentlyDisabled := by
  unfold secondaryWrite
  split <;> rfl

/-- On a primary port the entry point is the gated primary write. -/
theorem onPagingControlPortWrite_primary (c : Params) (port : Port) (v : Byte) (p : PagingState)
    (h : primaryPaging c port = true) : onPagingControlPortWrite c port v p = gatedPrimaryWrite v p := by
  by_cases hl : p.pagingPermanentlyDisabled = true <;> simp [onPagingControlPortWrite, gatedPrimaryWrite, hl, h]

/-- On a secondary port that is not primary the entry point is the gated secondary write. -/
theorem onPagingControlPortWrite_secondary (c : Params) (port : Port) (v : Byte) (p : PagingState)
    (h1 : primaryPaging c port = false) (h2 : secondaryPaging c port = true) :
    onPagingControlPortWrite c port v p = gatedSecondaryWrite c v p := by
  by_cases hl : p.pagingPermanentlyDisabled = true <;> cases hg : c.auxGated <;>
    simp [onPagingControlPortWrite, gatedSecondaryWrite, hl, h1, h2, hg]

/-! ## The snapshot -/

/-- A record fits when every field is within its width (R161). -/
theorem recordFits_iff (r : SnapshotRecord) :
    recordFits r = true ↔ r.ramBank ≤ 7 ∧ r.romLow ≤ 1 ∧ r.romHigh ≤ 1 ∧ r.shadowScreenSelected ≤ 1 ∧
      r.pagingPermanentlyDisabled ≤ 1 ∧ r.specialPagingMode ≤ 1 ∧ r.pagingConfiguration ≤ 3 ∧
      r.diskMotorOn ≤ 1 ∧ r.printerStrobe ≤ 1 ∧ r.lastUlaOutByte ≤ 0xFF := by
  simp only [recordFits, decide_eq_true_eq]

/-- The record of any state fits: every field is stored at the width of its range (R112). -/
theorem recordFits_snapshotOf (s : State) : recordFits (snapshotOf s) = true := by
  have h1 := s.paging.ramBank.isLt
  have h2 := s.paging.romLow.isLt
  have h3 := s.paging.romHigh.isLt
  have h4 := s.paging.pagingConfiguration.isLt
  have h5 := s.lastUlaOut.isLt
  have hb : ∀ b : Bool, b.toNat ≤ 1 := by decide
  simp only [recordFits_iff, snapshotOf, hb, true_and]
  omega

/-- A refused restore leaves everything but the reply. -/
theorem snapshotSet_refused (r : SnapshotRecord) (s : State) (h : recordFits r = false) :
    snapshotSet r s = setReply .restoreRefused s := by
  simp [snapshotSet, h]

/-- A restore that fits writes PagingState and the latch. -/
theorem snapshotSet_fits (r : SnapshotRecord) (s : State) (h : recordFits r = true) :
    snapshotSet r s = setLastUlaOut (BitVec.ofNat 8 r.lastUlaOutByte) (setPaging (pagingOf r) s) := by
  simp [snapshotSet, h]

/-! ## The accessors -/

/-- An accessor changes no field but the reply and, for the ROM index in special mode, the fault mark. -/
theorem ask_frame (a : Accessor) (s : State) :
    (ask a s).paging = s.paging ∧ (ask a s).lastUlaOut = s.lastUlaOut ∧ (ask a s).inputRead = s.inputRead ∧
      (ask a s).soundSel = s.soundSel ∧ (ask a s).soundReg = s.soundReg ∧ (ask a s).inputs = s.inputs ∧
      (ask a s).events = s.events ∧ (ask a s).pending = s.pending := by
  cases a <;> simp only [ask, currentRomPageIndex]
  case currentRomPageIndex => split <;> simp
  all_goals simp

end Sys2Proof.Machine
end

