-- ==== Sys2Proof/Laws/PerInstr.lean ====
section
/-!
SUPPORT. Facts about every class as syntax. Family `EncodedFields`: the word of a class holds, in the fields of spec
30_encoding.md R60, the class's `KIND`, port and data, with 0 where the class ignores the field (R62, R63).
-/

namespace Sys2Proof.Laws.EncodedFields

/-- The three fields of the class's word. -/
def Statement (i : Instr) : Prop :=
  kindOf (encode i) = i.kind ∧ portOf (encode i) = i.port ∧ dataOf (encode i) = i.data

/-- The three fields of an assembled word are the three it was assembled from. -/
theorem of_txWord (i : Instr) : Statement i :=
  ⟨kindOf_txWord _ _ _, portOf_txWord _ _ _, dataOf_txWord _ _ _⟩

theorem inJoystick (port : Port) : Statement (.inJoystick port) := of_txWord _
theorem inKeyboard (port : Port) : Statement (.inKeyboard port) := of_txWord _
theorem inSoundA (port : Port) : Statement (.inSoundA port) := of_txWord _
theorem inSoundB (port : Port) : Statement (.inSoundB port) := of_txWord _
theorem inFloating (port : Port) : Statement (.inFloating port) := of_txWord _
theorem outPagePri (port : Port) (data : Byte) : Statement (.outPagePri port data) := of_txWord _
theorem outPageSec (port : Port) (data : Byte) : Statement (.outPageSec port data) := of_txWord _
theorem outUla (port : Port) (data : Byte) : Statement (.outUla port data) := of_txWord _
theorem outSndSel (port : Port) (data : Byte) : Statement (.outSndSel port data) := of_txWord _
theorem outSndDat (port : Port) (data : Byte) : Statement (.outSndDat port data) := of_txWord _
theorem outAbsorbed (port : Port) (data : Byte) : Statement (.outAbsorbed port data) := of_txWord _
theorem resetPoweron : Statement .resetPoweron := of_txWord _
theorem resetSoft : Statement .resetSoft := of_txWord _

end Sys2Proof.Laws.EncodedFields
end

