-- ==== Sys2Proof/Tests/Slice0.lean ====
section
/-!
SUPPORT. Tests. Expected results are the spec's own: the words and tables of 95_test_vectors.md (L1, L2, P1 to P6) and
the examples of the rules; each test names its source. Then, for each statement with hypotheses, a concrete case that
meets them.
-/

namespace Sys2Proof.Tests

open Sys2Proof.Machine

/-! ## Helpers -/

/-- A field of the next state, when there is one. -/
def field {α : Type} (r : Result) (f : State → α) : Option α :=
  match r with
  | .next t => some (f t)
  | .fault _ => none
  | .refused _ => none

/-- Inputs as 95_test_vectors.md starts from: every row 0xFF, tape inactive; the joystick present with the given line. -/
def stick (line : Byte) : Inputs :=
  { Inputs.quiet with joyPresent := true, joyLine := line }

/-- Inputs with the given rows. -/
def rows (r : Vector Byte 8) : Inputs :=
  { Inputs.quiet with keyRow := r }

/-- Inputs with the tape active and the given ear sample. -/
def tape (ear : Bool) : Inputs :=
  { Inputs.quiet with tapeActive := true, earSample := ear }

/-- `s` with one transaction asked for. -/
def asked (s : State) (w : TxWord) (inputs : Inputs) : State :=
  { s with pending := [.transaction w inputs] }

/-- `s` with one host call asked for. -/
def called (s : State) (c : HostCall) : State :=
  { s with pending := [.host c] }

/-- The power-on state with the given latch. -/
def latched (v : Byte) : State :=
  { State.reset with lastUlaOut := v }

/-- The power-on state with the lock set. -/
def locked : State :=
  { State.reset with paging := { PagingState.reset with pagingPermanentlyDisabled := true } }

/-- The power-on state in special mode. -/
def special : State :=
  { State.reset with paging := { PagingState.reset with specialPagingMode := true, pagingConfiguration := 3 } }

/-- The parameters of a revision whose aux bits the lock does not gate. -/
def ungated : Params :=
  { hardware with auxGated := false }

/-- The parameters of a build whose default overlay is bit 4 of the latch as it stands. -/
def notInverted : Params :=
  { hardware with earDefaultInvert := false }

/-! ## Well-formedness: each check refuses an ill-formed term (R64, R65) -/

theorem test_wf_refuses_joystick_bit5_set : (Instr.inJoystick 0xFEFE).wellFormed hardware = false := by decide
theorem test_wf_refuses_keyboard_claimed : (Instr.inKeyboard 0x001E).wellFormed hardware = false := by decide
theorem test_wf_refuses_keyboard_odd : (Instr.inKeyboard 0xFFFF).wellFormed hardware = false := by decide
theorem test_wf_refuses_soundA_claimed : (Instr.inSoundA 0xC001).wellFormed hardware = false := by decide
theorem test_wf_refuses_soundA_even : (Instr.inSoundA 0xFFFC).wellFormed hardware = false := by decide
theorem test_wf_refuses_soundA_pattern : (Instr.inSoundA 0xBFFD).wellFormed hardware = false := by decide
theorem test_wf_refuses_soundB_claimed : (Instr.inSoundB 0x8001).wellFormed hardware = false := by decide
theorem test_wf_refuses_soundB_even : (Instr.inSoundB 0xBFFC).wellFormed hardware = false := by decide
theorem test_wf_refuses_soundB_select : (Instr.inSoundB 0xFFFD).wellFormed hardware = false := by decide
theorem test_wf_refuses_soundB_pattern : (Instr.inSoundB 0x7FFD).wellFormed hardware = false := by decide
theorem test_wf_refuses_floating_claimed : (Instr.inFloating 0x001F).wellFormed hardware = false := by decide
theorem test_wf_refuses_floating_even : (Instr.inFloating 0xFEFE).wellFormed hardware = false := by decide
theorem test_wf_refuses_floating_sound : (Instr.inFloating 0xFFFD).wellFormed hardware = false := by decide
theorem test_wf_refuses_pagePri_pattern : (Instr.outPagePri 0x7FFE 0).wellFormed hardware = false := by decide
theorem test_wf_refuses_pageSec_pattern : (Instr.outPageSec 0x3FFD 0).wellFormed hardware = false := by decide
theorem test_wf_refuses_pageSec_primary : (Instr.outPageSec 0x7FFD 0).wellFormed hardware = false := by decide
theorem test_wf_refuses_ula_paging : (Instr.outUla 0x7FFC 0).wellFormed hardware = false := by decide
theorem test_wf_refuses_ula_odd : (Instr.outUla 0x00FF 0).wellFormed hardware = false := by decide
theorem test_wf_refuses_sndSel_paging : (Instr.outSndSel 0x7FFD 0).wellFormed hardware = false := by decide
theorem test_wf_refuses_sndSel_even : (Instr.outSndSel 0xFFFC 0).wellFormed hardware = false := by decide
theorem test_wf_refuses_sndSel_pattern : (Instr.outSndSel 0xBFFD 0).wellFormed hardware = false := by decide
theorem test_wf_refuses_sndDat_paging : (Instr.outSndDat 0x1FFD 0).wellFormed hardware = false := by decide
theorem test_wf_refuses_sndDat_even : (Instr.outSndDat 0xBFFC 0).wellFormed hardware = false := by decide
theorem test_wf_refuses_sndDat_select : (Instr.outSndDat 0xFFFD 0).wellFormed hardware = false := by decide
theorem test_wf_refuses_sndDat_pattern : (Instr.outSndDat 0xFFFF 0).wellFormed hardware = false := by decide
theorem test_wf_refuses_absorbed_paging : (Instr.outAbsorbed 0x1FFD 0).wellFormed hardware = false := by decide
theorem test_wf_refuses_absorbed_even : (Instr.outAbsorbed 0x00FE 0).wellFormed hardware = false := by decide
theorem test_wf_refuses_absorbed_select : (Instr.outAbsorbed 0xFFFD 0).wellFormed hardware = false := by decide
theorem test_wf_refuses_absorbed_data : (Instr.outAbsorbed 0xBFFD 0).wellFormed hardware = false := by decide
theorem test_wf_resets : Instr.resetPoweron.wellFormed hardware = true ∧ Instr.resetSoft.wellFormed hardware = true := by decide

/-- D24: the default patterns are well formed, and a pattern with a 1 outside its mask is refused. -/
theorem test_params_wf :
    hardware.wellFormed = true ∧ ({ hardware with primary := ⟨0xC002, 0x4001⟩ } : Params).wellFormed = false := by decide

/-! ## Decoding: words written out from R60 as `{KIND, PORT, DATA}` -/

/-- L2-1: 0x001E is even, and the joystick takes it. -/
theorem test_decode_joystick :
    decode hardware (0b00#2 ++ (0b0000000000011110#16 ++ 0x00#8)) = .inJoystick 0x001E := by decide
/-- L2-1: 0xFFFC is even, and the keyboard takes it before the sound device. -/
theorem test_decode_keyboard :
    decode hardware (0b00#2 ++ (0b1111111111111100#16 ++ 0x00#8)) = .inKeyboard 0xFFFC := by decide
/-- L2-1: 0xFFFD. -/
theorem test_decode_soundA :
    decode hardware (0b00#2 ++ (0b1111111111111101#16 ++ 0x00#8)) = .inSoundA 0xFFFD := by decide
/-- L2-1: 0xBFFD. -/
theorem test_decode_soundB :
    decode hardware (0b00#2 ++ (0b1011111111111101#16 ++ 0x00#8)) = .inSoundB 0xBFFD := by decide
/-- L2-1: 0x7FFD, a paging port, is not readable; the ignored `DATA` changes nothing (R63). -/
theorem test_decode_floating :
    decode hardware (0b00#2 ++ (0b0111111111111101#16 ++ 0xA5#8)) = .inFloating 0x7FFD := by decide
/-- L2-2: 0x4000 is even and primary paging. -/
theorem test_decode_pagePri :
    decode hardware (0b01#2 ++ (0b0100000000000000#16 ++ 0x02#8)) = .outPagePri 0x4000 0x02 := by decide
/-- L2-2: 0x1FFC is even and secondary paging. -/
theorem test_decode_pageSec :
    decode hardware (0b01#2 ++ (0b0001111111111100#16 ++ 0x05#8)) = .outPageSec 0x1FFC 0x05 := by decide
/-- L2-2: 0x7FFE has bit 1 = 1, so it is no paging port. -/
theorem test_decode_ula :
    decode hardware (0b01#2 ++ (0b0111111111111110#16 ++ 0x15#8)) = .outUla 0x7FFE 0x15 := by decide
/-- L2-2: 0xFFFD. -/
theorem test_decode_sndSel :
    decode hardware (0b01#2 ++ (0b1111111111111101#16 ++ 0x07#8)) = .outSndSel 0xFFFD 0x07 := by decide
/-- L2-2: 0xBFFD. -/
theorem test_decode_sndDat :
    decode hardware (0b01#2 ++ (0b1011111111111101#16 ++ 0x38#8)) = .outSndDat 0xBFFD 0x38 := by decide
/-- L2-2: 0x3FFD fails the secondary pattern by bit 13. -/
theorem test_decode_absorbed :
    decode hardware (0b01#2 ++ (0b0011111111111101#16 ++ 0x55#8)) = .outAbsorbed 0x3FFD 0x55 := by decide
/-- L2-12 and R62: a power-on word, its ignored fields not at their canonical values. -/
theorem test_decode_poweron :
    decode hardware 0x2000000 = .resetPoweron ∧ decode hardware 0x2FFFFFF = .resetPoweron := by decide
/-- L2-12. -/
theorem test_decode_soft : decode hardware 0x3000000 = .resetSoft ∧ decode hardware 0x3FFFFFF = .resetSoft := by decide
/-- R72: a number of more than 26 bits is no transaction word. -/
theorem test_decode_too_wide : decodeNat hardware 0x4000000 = .error .wordTooWide := by decide
/-- P4 step 1: the encoder gives the word the spec writes. -/
theorem test_encode_sndSel : encode (.outSndSel 0xFFFD 0x07) = 0x1FFFD07 := by decide
/-- P3 step 3: the canonical word of a read has `DATA` 0. -/
theorem test_encode_keyboard : encode (.inKeyboard 0xFEFE) = 0x0FEFE00 := by decide
/-- The host's numbering: the opcode table's row `OUT_PAGE_SEC` with its other bits 0. -/
theorem test_decodeTableWord : decodeTableWord 32 0x1100000 = some (.outPageSec 0x1000 0x00) := by decide
/-- A word asked for by number is the one the next step runs: P1 step 1. -/
theorem test_withFetchWord :
    field (step (State.reset.withFetchWord 32 0x17FFD13)) (fun t => t.paging.ramBank) = some 3 := by decide

/-! ## The decoder's rule examples -/

/-- R80 and R81. -/
theorem test_match_examples :
    matchPort 0x7FFD ⟨0xC002, 0x4000⟩ = true ∧ bitReset 0xFEFE 8 = true ∧ bitReset 0xFEFE 9 = false := by decide
/-- R82, R84 to R89. -/
theorem test_predicate_examples :
    joystickClaim 0x001F = true ∧ joystickClaim 0xFEFE = false ∧ primaryPaging hardware 0x7FFD = true ∧
      primaryPaging hardware 0x7FFE = false ∧ secondaryPaging hardware 0x1FFD = true ∧
      secondaryPaging hardware 0x3FFD = false ∧ pagingPort hardware 0x00FE = false ∧
      soundSelect hardware 0xBFFD = false ∧ soundData hardware 0xBFFD = true ∧
      soundActivation hardware 0x7FFD = false := by decide
/-- R90: 0xFEFE selects row 0 alone, and 0x00FE all eight. -/
theorem test_rowSelected :
    halfRows.filter (rowSelected 0xFEFE) = [0] ∧ halfRows.filter (rowSelected 0x00FE) = halfRows := by decide

/-! ## Reads -/

/-- L2-8. -/
theorem test_joystick_line : field (step (asked State.reset 0x0001F00 (stick 0x1F))) State.reply = some (.byte 0x1F) := by
  decide
/-- L2-8: no joystick. -/
theorem test_joystick_absent : field (step (asked State.reset 0x0001F00 Inputs.quiet)) State.reply = some (.byte 0xFF) := by
  decide
/-- L2-7: rows 3 and 5 both low, all rows selected. -/
theorem test_keyboard_rows :
    field (step (asked State.reset 0x000FE00 (rows #v[0xFF, 0xFF, 0xFF, 0xF7, 0xFF, 0xFD, 0xFF, 0xFF]))) State.reply =
      some (.byte 0xF5) := by decide
/-- L2-7: tape active with ear sample false, no row selected, although the latch would give 1. -/
theorem test_keyboard_tape :
    field (step (asked State.reset 0x0FFFE00 (tape false))) State.reply = some (.byte 0xBF) := by decide
/-- L2-10: the selected register, here 3, is read back, and the read emits its `Notify` alone. -/
theorem test_soundA :
    field (step (asked { State.reset with soundSel := 3, soundReg := State.reset.soundReg.set 3 0x55 } 0x0FFFD00
      Inputs.quiet)) (fun t => (t.reply, t.events, t.inputRead)) =
      some (.byte 0x55, [.notify 0xFFFD], true) := by decide
/-- L2-10: the other activation pattern reads the same register. -/
theorem test_soundB :
    field (step (asked { State.reset with soundSel := 3, soundReg := State.reset.soundReg.set 3 0x55 } 0x0BFFD00
      Inputs.quiet)) State.reply = some (.byte 0x55) := by decide
/-- R120's example. -/
theorem test_floating :
    field (step (asked State.reset 0x07FFD00 Inputs.quiet)) (fun t => (t.reply, t.events)) =
      some (.byte 0xFF, [.notify 0x7FFD]) := by decide

/-! ## Paging -/

/-- L2-3: 0x1B. -/
theorem test_pagePri :
    field (step (asked State.reset 0x17FFD1B Inputs.quiet)) State.paging =
      some { PagingState.reset with ramBank := 3, shadowScreenSelected := true, romLow := 1 } := by decide
/-- L2-5: with the lock set, a write with bit 5 clear does not clear it. -/
theorem test_pagePri_locked :
    field (step (asked locked 0x17FFD07 Inputs.quiet)) (fun t => (t.paging, t.events)) =
      some (locked.paging, [.notify 0x7FFD]) := by decide
/-- L1-3: from special mode configuration 3 with both ROM bits 1, 0x00 rewrites the ROM high bit. -/
theorem test_pageSec_normal :
    field (step (asked { special with paging := { special.paging with romHigh := 1, romLow := 1 } } 0x11FFD00
      Inputs.quiet)) (fun t => (t.paging.pagingConfiguration, romPageIndexValue t)) = some (3, 1) := by decide
/-- L2-4: 0x1F: configuration 3, both aux bits, ROM high bit not written. -/
theorem test_pageSec_special :
    field (step (asked State.reset 0x11FFD1F Inputs.quiet)) State.paging =
      some { PagingState.reset with
        specialPagingMode := true, pagingConfiguration := 3, diskMotorOn := true, printerStrobe := true } := by decide
/-- L2-5, last column: with the aux bits not gated, a locked secondary write sets them and nothing else. -/
theorem test_ungated_aux :
    onPagingControlPortWrite ungated 0x1FFD 0x1D locked.paging =
      { locked.paging with diskMotorOn := true, printerStrobe := true } ∧
    onPagingControlPortWrite ungated 0x7FFD 0x1D locked.paging = locked.paging := by decide

/-! ## Writes -/

/-- L2-9: 0x05 from 0x00 flushes. -/
theorem test_ula_flush :
    field (step (asked State.reset 0x100FE05 { Inputs.quiet with frameCycle := 77 }))
      (fun t => (t.lastUlaOut, t.events, t.inputRead)) =
      some (0x05, [.notify 0x00FE, .flushBorderBuffer 77, .buzzer false], false) := by decide
/-- L2-9: 0x11 from 0x01 does not. -/
theorem test_ula_same_colour :
    field (step (asked (latched 0x01) 0x100FE11 Inputs.quiet)) (fun t => (t.lastUlaOut, t.events)) =
      some (0x11, [.notify 0x00FE, .buzzer true]) := by decide
/-- L2-10: 0xF3 selects register 3. -/
theorem test_sndSel :
    field (step (asked State.reset 0x1FFFDF3 Inputs.quiet)) (fun t => (t.soundSel, t.events)) =
      some (3, [.notify 0xFFFD, .soundSelect 3, .cyclePenalty 3]) := by decide
/-- R147's example: register 7 takes the byte, its neighbours do not. -/
theorem test_sndDat :
    field (step (asked { State.reset with soundSel := 7 } 0x1BFFD38 Inputs.quiet))
      (fun t => (t.soundReg[6], t.soundReg[7], t.soundReg[8], t.events)) =
      some (0x00, 0x38, 0x00, [.notify 0xBFFD, .soundWrite 7 0x38, .cyclePenalty 3]) := by decide
/-- L2-11. -/
theorem test_absorbed :
    field (step (asked (latched 0x15) 0x1FFFF55 Inputs.quiet)) (fun t => (t.lastUlaOut, t.events)) =
      some (0x15, [.notify 0xFFFF]) := by decide

/-! ## Resets -/

/-- L2-12: lock, latch and mark after a power-on. -/
theorem test_poweron :
    field (step (asked { locked with lastUlaOut := 0x15, romIndexInSpecialMode := true } 0x2000000 Inputs.quiet))
      (fun t => (t.paging, t.lastUlaOut, t.romIndexInSpecialMode)) = some (PagingState.reset, 0x00, false) := by decide
/-- L2-12: a soft reset keeps the lock and the mark, and resets the rest. -/
theorem test_soft :
    field (step (asked { locked with lastUlaOut := 0x15, romIndexInSpecialMode := true } 0x3000000 Inputs.quiet))
      (fun t => (t.paging, t.lastUlaOut, t.romIndexInSpecialMode)) = some (locked.paging, 0x00, true) := by decide

/-! ## Host calls -/

/-- L2-6: asked in special mode, the ROM index is 0 and the mark is set. -/
theorem test_romPage_special :
    field (step (called special (.ask .currentRomPageIndex))) (fun t => (t.reply, t.romIndexInSpecialMode)) =
      some (.romPage 0, true) := by decide
/-- L2-13 step 4: a record with `ramBank` 8 is refused. -/
theorem test_restore_refused :
    field (step (called locked (.snapshotSet { snapshotOf State.reset with ramBank := 8 })))
      (fun t => (t.paging, t.reply)) = some (locked.paging, .restoreRefused) := by decide
/-- L2-13 step 3: a record taken before the lock clears it. -/
theorem test_restore_clears_lock :
    field (step (called locked (.snapshotSet (snapshotOf State.reset)))) (fun t => (t.paging, t.events)) =
      some (PagingState.reset, []) := by decide

/-! ## Other builds (R5) -/

/-- L2-5, last column, as a step of the ungated build. -/
theorem test_build_ungated :
    field (stepFor ungated (asked locked 0x11FFD1D Inputs.quiet)) State.paging =
      some { locked.paging with diskMotorOn := true, printerStrobe := true } := by decide
/-- R127 with `P_EAR_DEFAULT_INVERT` = false: latch bit 4 set gives bit 6 set, and in this hardware's build clear. -/
theorem test_build_notInverted :
    field (stepFor notInverted (asked (latched 0x10) 0x0FEFE00 Inputs.quiet)) State.reply = some (.byte 0xFF) ∧
    field (step (asked (latched 0x10) 0x0FEFE00 Inputs.quiet)) State.reply = some (.byte 0xBF) := by decide
/-- Sizes that disagree with the field widths are refused. -/
theorem test_wf_refuses_sizes :
    ({ hardware.sizes with ramBanks := 16 } : Sizes).wellFormed = false ∧
    ({ hardware.sizes with portWidth := 8 } : Sizes).wellFormed = false ∧
    ({ hardware.sizes with dataWidth := 16 } : Sizes).wellFormed = false ∧
    ({ hardware.sizes with romBanks := 2 } : Sizes).wellFormed = false ∧
    ({ hardware.sizes with specialConfigs := 8 } : Sizes).wellFormed = false ∧
    ({ hardware.sizes with soundRegs := 14 } : Sizes).wellFormed = false := by decide

/-! ## Witnesses: for each statement with hypotheses, a case that meets them -/

/-- Two different inputs that agree on the joystick. -/
def stickAndTape : Inputs :=
  { tape true with joyPresent := true, joyLine := 0x01, keyRow := Vector.replicate 8 0x00 }

theorem witness_DecodeEncodeRoundTrip :
    ([.inJoystick 0x0000, .inKeyboard 0xFFFE, .inSoundA 0xFFFD, .inSoundB 0xBFFD, .inFloating 0xFFFF,
      .outPagePri 0x7FFD 0xFF, .outPageSec 0x1FFD 0x00, .outUla 0xFFFE 0xFF, .outSndSel 0xC001 0x0F,
      .outSndDat 0x8001 0xFF, .outAbsorbed 0xFFFF 0x00, .resetPoweron, .resetSoft] : List Instr).all
      (Instr.wellFormed hardware) = true := by decide

/-- One word for each clause of the read priority and of the read map. -/
theorem witness_ReadDecodePriority :
    ([0x0001E00, 0x0FEFE00, 0x0FFFD00, 0x0BFFD00, 0x07FFD00] : List TxWord).all
      (fun w => !w.getLsbD 25 && !w.getLsbD 24) = true ∧
    joystickClaim 0x001E = true ∧
    (joystickClaim 0xFEFE = false ∧ isEven 0xFEFE = true) ∧
    (joystickClaim 0xFFFD = false ∧ isEven 0xFFFD = false ∧ soundActivation hardware 0xFFFD = true) ∧
    (joystickClaim 0x7FFD = false ∧ isEven 0x7FFD = false ∧ soundActivation hardware 0x7FFD = false) := by decide

theorem witness_ReadWordsDecodeByPortBits :
    (0x0001E00 : TxWord).getLsbD 25 = false ∧ (0x0001E00 : TxWord).getLsbD 24 = false := by decide

/-- One word for each clause of the write map. -/
theorem witness_WriteWordsDecodeByPortBits :
    ([0x17FFC01, 0x11FFD04, 0x112FE12, 0x1FFFD07, 0x1BFFD38, 0x1FFFF55] : List TxWord).all
      (fun w => !w.getLsbD 25 && w.getLsbD 24) = true := by decide

theorem witness_DecoderPrimitives : (0 : Nat) < 16 ∧ (15 : Nat) < 16 := by decide

theorem witness_JoystickReadResult :
    (0x0001F00 : TxWord).extractLsb' 24 2 = 0b00#2 ∧ (0x0001F00 : TxWord).getLsbD (8 + 5) = false := by decide

theorem witness_JoystickReadDependsOnJoystickOnly :
    (0x0001E00 : TxWord).extractLsb' 24 2 = 0b00#2 ∧ (0x0001E00 : TxWord).getLsbD (8 + 5) = false ∧
      (stick 0x01).joyPresent = stickAndTape.joyPresent ∧ (stick 0x01).joyLine = stickAndTape.joyLine ∧
      stick 0x01 ≠ stickAndTape := by decide

theorem witness_KeyboardRowAndMask : (0 : Nat) < 8 ∧ (7 : Nat) < 8 ∧ (0 : Nat) < 5 ∧ (4 : Nat) < 5 := by decide

/-- The overlay bit itself and the bits at both ends. -/
theorem witness_KeyboardOverlayBit :
    (6 : Nat) < 8 ∧ 6 = hardware.tapeBit.val ∧ (0 : Nat) < 8 ∧ 0 ≠ hardware.tapeBit.val ∧ (7 : Nat) < 8 ∧
      7 ≠ hardware.tapeBit.val := by decide

/-- Port 0xFEFE selects row 0 alone; the two differ in row 7 and in bit 7 of row 0. -/
theorem witness_KeyboardReadSeesSelectedRowsOnly :
    (∀ i : Fin 8, (0xFEFE : Port).getLsbD (8 + i) = false →
      (#v[0xFE, 0xFF, 0xFF, 0xFF, 0xFF, 0xFF, 0xFF, 0x00] : Vector Byte 8)[i].extractLsb' 0 5 =
        (#v[0x7E, 0xFF, 0xFF, 0xFF, 0xFF, 0xFF, 0xFF, 0xFF] : Vector Byte 8)[i].extractLsb' 0 5) ∧
    (latched 0x10).lastUlaOut.getLsbD 4 = (latched 0xFF).lastUlaOut.getLsbD 4 := by decide

theorem witness_SoundReadResult :
    (0x0BFFD00 : TxWord).extractLsb' 24 2 = 0b00#2 ∧ (0x0BFFD00 : TxWord).getLsbD (8 + 5) = true ∧
      (0x0BFFD00 : TxWord).getLsbD (8 + 0) = true ∧
      soundActivation hardware ((0x0BFFD00 : TxWord).extractLsb' 8 16) = true := by decide

theorem witness_FloatingReadResult :
    (0x07FFD00 : TxWord).extractLsb' 24 2 = 0b00#2 ∧ (0x07FFD00 : TxWord).getLsbD (8 + 5) = true ∧
      (0x07FFD00 : TxWord).getLsbD (8 + 0) = true ∧
      soundActivation hardware ((0x07FFD00 : TxWord).extractLsb' 8 16) = false := by decide

theorem witness_ReadFrame :
    ([.inJoystick 0, .inKeyboard 0xFEFE, .inSoundA 0xFFFD, .inSoundB 0xBFFD, .inFloating 0xFFFF] : List Instr).all
      (fun i => i.kind == 0b00#2) = true := by decide

theorem witness_PrimaryWriteResult : State.reset.paging.pagingPermanentlyDisabled = false := by decide

theorem witness_SecondaryNormalWriteResult :
    State.reset.paging.pagingPermanentlyDisabled = false ∧ (0x04 : Byte).getLsbD 0 = false := by decide

theorem witness_SecondarySpecialWriteResult :
    State.reset.paging.pagingPermanentlyDisabled = false ∧ (0x05 : Byte).getLsbD 0 = true := by decide

theorem witness_LockedPagingWriteIsIgnored : locked.paging.pagingPermanentlyDisabled = true := by decide

/-- Each clause: locked with the aux bits ungated and gated; unlocked on a primary and on a secondary port. -/
theorem witness_PagingEntryPointUnderTheLock :
    (locked.paging.pagingPermanentlyDisabled = true ∧ secondaryPaging ungated 0x1FFD = true ∧
      primaryPaging ungated 0x1FFD = false ∧ ungated.auxGated = false ∧ hardware.auxGated = true) ∧
    (State.reset.paging.pagingPermanentlyDisabled = false ∧ primaryPaging hardware 0x7FFD = true) ∧
    (State.reset.paging.pagingPermanentlyDisabled = false ∧ primaryPaging hardware 0x1FFD = false) ∧
    secondaryPaging ungated 0x1FFD = true := by decide

/-- A locked state whose next transaction is a primary write; the word is neither a power-on nor a read. -/
theorem witness_LockIsOneWay :
    ∃ t, (asked locked 0x17FFD07 Inputs.quiet).pending = .transaction 0x17FFD07 Inputs.quiet :: [] ∧
      (asked locked 0x17FFD07 Inputs.quiet).paging.pagingPermanentlyDisabled = true ∧
      step (asked locked 0x17FFD07 Inputs.quiet) = .next t ∧
      (0x17FFD07 : TxWord).extractLsb' 24 2 = 0b01#2 := ⟨_, rfl, rfl, rfl, by decide⟩

theorem witness_EveryStepKeepsPagingFrozen :
    ∃ t u, frozen locked.paging (asked locked 0x11FFD05 Inputs.quiet) = true ∧
      step (asked locked 0x11FFD05 Inputs.quiet) = .next t ∧ notInverted.auxGated = true ∧
      stepFor notInverted (asked locked 0x11FFD05 Inputs.quiet) = .next u := ⟨_, _, by decide, rfl, rfl, rfl⟩

theorem witness_FrozenPagingSurvivesAnyRun :
    frozen locked.paging (asked locked 0x17FFD00 Inputs.quiet) = true := by decide

theorem witness_RamPageAndShadowAccessors :
    (called State.reset (.ask .currentRamPageIndex)).pending = .host (.ask .currentRamPageIndex) :: [] ∧
    (called special (.ask .isShadowScreenSelected)).pending = .host (.ask .isShadowScreenSelected) :: [] := by decide

theorem witness_ModeAndAuxAccessors :
    (called special (.ask .isSpecialPagingMode)).pending = .host (.ask .isSpecialPagingMode) :: [] ∧
    (called State.reset (.ask .currentPagingConfiguration)).pending =
      .host (.ask .currentPagingConfiguration) :: [] ∧
    (called State.reset (.ask .diskMotorOn)).pending = .host (.ask .diskMotorOn) :: [] ∧
    (called State.reset (.ask .printerStrobe)).pending = .host (.ask .printerStrobe) :: [] := by decide

/-- Both modes. -/
theorem witness_RomPageIndexAccessor :
    (called State.reset (.ask .currentRomPageIndex)).pending = .host (.ask .currentRomPageIndex) :: [] ∧
    State.reset.paging.specialPagingMode = false ∧ special.paging.specialPagingMode = true := by decide

theorem witness_SpecialModeRoundTrip :
    State.reset.paging.pagingPermanentlyDisabled = false ∧ (0x07 : Byte).getLsbD 0 = true ∧
      (0x00 : Byte).getLsbD 0 = false ∧
      (0x00 : Byte).extractLsb' 2 1 = State.reset.paging.romHigh := by decide

theorem witness_MemoryLayoutResolution :
    special.paging.specialPagingMode = true ∧ State.reset.paging.specialPagingMode = false := by decide

theorem witness_UlaWriteResult :
    (0x100FE15 : TxWord).extractLsb' 24 2 = 0b01#2 ∧ (0x100FE15 : TxWord).getLsbD (8 + 0) = false ∧
      pagingPort hardware ((0x100FE15 : TxWord).extractLsb' 8 16) = false := by decide

/-- The source's own sequence, 0x00, 0x00, 0x01, 0x01, 0x02 (L1-5). -/
def borderWrites : List (Port × Byte × Inputs) :=
  [(0x00FE, 0x00, Inputs.quiet), (0x00FE, 0x00, Inputs.quiet), (0x00FE, 0x01, Inputs.quiet),
   (0x00FE, 0x01, Inputs.quiet), (0x00FE, 0x02, Inputs.quiet)]

theorem witness_BorderFlushesCountColourChanges :
    (∀ x ∈ borderWrites, x.1.getLsbD 0 = false ∧ pagingPort hardware x.1 = false) ∧
    ({ State.reset with pending := writesTo borderWrites } : State).pending = writesTo borderWrites ++ [] ∧
    colourChanges 0 (borderWrites.map (fun x => x.2.1)) = 2 := by decide

theorem witness_SoundSelectResult :
    (0x1FFFD07 : TxWord).extractLsb' 24 2 = 0b01#2 ∧ (0x1FFFD07 : TxWord).getLsbD (8 + 0) = true ∧
      soundSelect hardware ((0x1FFFD07 : TxWord).extractLsb' 8 16) = true := by decide

theorem witness_SoundDataResult :
    (0x1BFFD38 : TxWord).extractLsb' 24 2 = 0b01#2 ∧ (0x1BFFD38 : TxWord).getLsbD (8 + 0) = true ∧
      soundData hardware ((0x1BFFD38 : TxWord).extractLsb' 8 16) = true := by decide

theorem witness_SoundRegisterRoundTrip :
    (0x07 : Byte).extractLsb' 0 4 ≠ (0x08 : Byte).extractLsb' 0 4 ∧
      (0xF7 : Byte).extractLsb' 0 4 = (0x07 : Byte).extractLsb' 0 4 := by decide

theorem witness_PenaltyExactlyOnSoundWrites :
    (asked State.reset 0x1FFFD07 Inputs.quiet).pending = .transaction 0x1FFFD07 Inputs.quiet :: [] := by decide

theorem witness_AbsorbedWriteResult :
    (0x1FFFF55 : TxWord).extractLsb' 24 2 = 0b01#2 ∧ (0x1FFFF55 : TxWord).getLsbD (8 + 0) = true ∧
      pagingPort hardware ((0x1FFFF55 : TxWord).extractLsb' 8 16) = false ∧
      soundSelect hardware ((0x1FFFF55 : TxWord).extractLsb' 8 16) = false ∧
      soundData hardware ((0x1FFFF55 : TxWord).extractLsb' 8 16) = false := by decide

theorem witness_WriteFrame :
    ([.outPagePri 0x7FFD 0, .outPageSec 0x1FFD 0, .outUla 0xFE 0, .outSndSel 0xFFFD 0, .outSndDat 0xBFFD 0,
      .outAbsorbed 0xFFFF 0] : List Instr).all (fun i => i.kind == 0b01#2) = true := by decide

/-- Locked, with a soft reset and a paging write still to come. -/
theorem witness_LockSurvivesSoftReset :
    locked.paging.pagingPermanentlyDisabled = true ∧
    ([.transaction 0x3000000 Inputs.quiet, .transaction 0x17FFD04 Inputs.quiet] : List Request).all
      (fun r => !unlocks r) = true := by decide

theorem witness_SnapshotGetResult : (called locked .snapshotGet).pending = .host .snapshotGet :: [] := by decide

/-- The largest record that fits, and one just over it. -/
def fullRecord : SnapshotRecord :=
  { ramBank := 7, romLow := 1, romHigh := 1, shadowScreenSelected := 1, pagingPermanentlyDisabled := 1,
    specialPagingMode := 1, pagingConfiguration := 3, diskMotorOn := 1, printerStrobe := 1, lastUlaOutByte := 0xFF }

theorem witness_SnapshotSetResult :
    (called State.reset (.snapshotSet fullRecord)).pending = .host (.snapshotSet fullRecord) :: [] ∧
    (fullRecord.ramBank ≤ 7 ∧ fullRecord.romLow ≤ 1 ∧ fullRecord.romHigh ≤ 1 ∧ fullRecord.shadowScreenSelected ≤ 1 ∧
      fullRecord.pagingPermanentlyDisabled ≤ 1 ∧ fullRecord.specialPagingMode ≤ 1 ∧
      fullRecord.pagingConfiguration ≤ 3 ∧ fullRecord.diskMotorOn ≤ 1 ∧ fullRecord.printerStrobe ≤ 1 ∧
      fullRecord.lastUlaOutByte ≤ 0xFF) ∧
    ¬ ({ fullRecord with printerStrobe := 2 } : SnapshotRecord).printerStrobe ≤ 1 := by decide

theorem witness_SnapshotRoundTrip : recordFits fullRecord = true := by decide

theorem witness_ClearInputReadAndNoAccessClears :
    (called State.reset .clearInputRead).pending = .host .clearInputRead :: [] ∧
    (asked { State.reset with inputRead := true } 0x100FE00 Inputs.quiet).pending =
      .transaction 0x100FE00 Inputs.quiet :: [] ∧
    (0x100FE00 : TxWord).getLsbD 25 = false ∧
    (asked { State.reset with inputRead := true } 0x100FE00 Inputs.quiet).inputRead = true := by decide

theorem witness_StepRunsTheDecodedInstruction :
    (asked State.reset 0x0001E00 (stick 0x10)).pending = .transaction 0x0001E00 (stick 0x10) :: [] := by decide

theorem witness_IdleStepChangesNothing : locked.pending = [] := by decide

theorem witness_EveryTransactionCompletes :
    (asked locked 0x3000000 Inputs.quiet).pending = .transaction 0x3000000 Inputs.quiet :: [] ∧
    (0x07FFD00 : TxWord).extractLsb' 24 2 = 0b00#2 ∧ (0x3000000 : TxWord).extractLsb' 24 2 ≠ 0b00#2 := by decide

theorem witness_DecodedClassesRefineThePorts :
    (asked locked 0x17FFC01 Inputs.quiet).pending = .transaction 0x17FFC01 Inputs.quiet :: [] ∧
    (0x0001E00 : TxWord).extractLsb' 24 2 = 0b00#2 ∧ (0x17FFC01 : TxWord).extractLsb' 24 2 = 0b01#2 := by decide

theorem witness_EveryStepKeepsOutputLegal :
    ∃ t u, legalOutput (asked State.reset 0x100FE05 Inputs.quiet) = true ∧
      step (asked State.reset 0x100FE05 Inputs.quiet) = .next t ∧ ungated.sndPenalty = 3 ∧
      stepFor ungated (asked State.reset 0x100FE05 Inputs.quiet) = .next u := ⟨_, _, by decide, rfl, rfl, rfl⟩

/-- Asked from special mode: leave it, then the ROM index. -/
def askAfterLeaving : State :=
  { special with pending :=
      [.transaction 0x11FFD00 { Inputs.quiet with cycle := 9 }, .host (.ask .currentRomPageIndex)] }

theorem witness_HonestHostNeverMeetsTheFault :
    ∃ t u, honestHost hardware askAfterLeaving = true ∧ honestHost ungated askAfterLeaving = true ∧
      step askAfterLeaving = .next t ∧ stepFor ungated askAfterLeaving = .next u := ⟨_, _, by decide, by decide, rfl, rfl⟩

/-- Asking for the ROM index in special mode breaks the contract (R163). -/
theorem test_dishonest_host : honestHost hardware (called special (.ask .currentRomPageIndex)) = false := by decide

theorem witness_FaultMarkIsSticky :
    ∃ t, step (called special (.ask .currentRomPageIndex)) = .next t ∧ t.romIndexInSpecialMode = true :=
  ⟨_, rfl, by decide⟩

theorem witness_PagingChangesOnlyByItsOwners :
    ∃ t, step (asked State.reset 0x17FFD1B Inputs.quiet) = .next t ∧
      t.paging ≠ (asked State.reset 0x17FFD1B Inputs.quiet).paging := ⟨_, rfl, by decide⟩

/-- A step that changes the latch, one that changes the selected index, one that changes the registers. -/
theorem witness_LatchAndSoundChangeOnlyByTheirOwners :
    (∃ t, step (asked State.reset 0x100FE05 Inputs.quiet) = .next t ∧ t.lastUlaOut ≠ State.reset.lastUlaOut) ∧
    (∃ t, step (asked State.reset 0x1FFFD07 Inputs.quiet) = .next t ∧ t.soundSel ≠ State.reset.soundSel) ∧
    (∃ t, step (asked State.reset 0x1BFFD38 Inputs.quiet) = .next t ∧ t.soundReg ≠ State.reset.soundReg) :=
  ⟨⟨_, rfl, by decide⟩, ⟨_, rfl, by decide⟩, ⟨_, rfl, by decide⟩⟩

theorem witness_EarlierInputsAreNotSeen :
    (asked State.reset 0x0001E00 (stick 0x10)).pending = .transaction 0x0001E00 (stick 0x10) :: [] ∧
    (asked State.reset 0x0001E00 (stick 0x10)).inputs ≠ tape true := by decide

end Sys2Proof.Tests
end

section
/-!
The primitives of the Bit/Mask Decoder (spec 40_decoder.md R80, R81, R83, R86) and obligation O10 about them.
-/

namespace Sys2Proof.Machine

/-- R80 as written: a match compares the masked port with the pattern. -/
theorem matchPort_eq_decide (port mask pattern : BitVec 16) :
    matchPort port ⟨mask, pattern⟩ = decide ((port &&& mask) = pattern) :=
  beq_eq_decide _ _

/-- R81, first form: the predicate holds exactly when the port bit is 0. -/
theorem bitReset_eq_decide (port : Port) (n : Nat) : bitReset port n = decide (port.getLsbD n = false) := by
  simp [bitReset]

/-- A one-bit mask inside the word cuts out 0 exactly when the bit it selects is 0. -/
theorem and_one_shiftLeft_eq_zero_iff {w : Nat} (x : BitVec w) {n : Nat} (hn : n < w) :
    x &&& (1#w <<< n) = 0#w ↔ x.getLsbD n = false := by
  have mask_ne_zero : BitVec.twoPow w n ≠ 0#w := fun h => by
    have bit_n := congrArg (BitVec.getLsbD · n) h
    simp [hn] at bit_n
  rw [← BitVec.twoPow_eq, BitVec.and_twoPow]
  cases x.getLsbD n
  · simp
  · simpa using mask_ne_zero

/-- R81, second form: testing one bit for 0 is a match with that bit's mask and pattern 0. -/
theorem bitReset_eq_matchPort (port : Port) {n : Nat} (hn : n < 16) :
    bitReset port n = matchPort port ⟨1#16 <<< n, 0#16⟩ := by
  rw [bitReset_eq_decide, matchPort_eq_decide]
  exact decide_eq_decide.mpr (and_one_shiftLeft_eq_zero_iff port hn).symm

end Sys2Proof.Machine

open Sys2Proof.Machine

/-- Settles O10: R80 and the first form of R81 hold by definition up to `==` and `!`; the content is that a bit test is a
match with a one-bit mask. `IsEven` and `PagingPort` (R83, R86) are their definitions. -/
theorem decoderPrimitives : Obligations.DecoderPrimitives := by
  unfold Obligations.DecoderPrimitives
  exact ⟨matchPort_eq_decide, fun port n hn => ⟨bitReset_eq_decide port n, bitReset_eq_matchPort port hn⟩,
    fun _ => rfl, fun _ _ => rfl⟩
end

section
/-!
Paging writes with the lock clear (spec 41_paging.md R101 to R103): obligations O21, O22 and O23.
-/

namespace Sys2Proof.Machine

/-- `OUT_PAGE_PRI` updates PagingState by the gated primary write, and returns nothing. -/
theorem exec_outPagePri (port : Port) (v : Byte) (s : State) :
    exec (.outPagePri port v) s = .next { s with
      paging := gatedPrimaryWrite v s.paging, reply := .none, events := [.notify port] } := rfl

/-- `OUT_PAGE_SEC` updates PagingState by the gated secondary write of the default build, and returns nothing. -/
theorem exec_outPageSec (port : Port) (v : Byte) (s : State) :
    exec (.outPageSec port v) s = .next { s with
      paging := gatedSecondaryWrite hardware v s.paging, reply := .none, events := [.notify port] } := rfl

/-- The gate of R100 on the primary port is open while the lock is clear; the sticky `||` on the lock is then `value[5]`
itself (R101). -/
theorem gatedPrimaryWrite_unlocked (v : Byte) (p : PagingState) (unlocked : p.pagingPermanentlyDisabled = false) :
    gatedPrimaryWrite v p = { p with
      ramBank := ramField v
      shadowScreenSelected := shadowField v
      romLow := romLowField v
      pagingPermanentlyDisabled := lockField v } := by
  simp [gatedPrimaryWrite, primaryWrite, unlocked]

/-- The gate of R100 on the secondary port is open in any build while the lock is clear. -/
theorem gatedSecondaryWrite_unlocked (c : Params) (v : Byte) (p : PagingState)
    (unlocked : p.pagingPermanentlyDisabled = false) : gatedSecondaryWrite c v p = secondaryWrite v p := by
  simp [gatedSecondaryWrite, unlocked]

/-- R102: with bit 0 clear a secondary write enters normal mode and leaves the configuration alone. -/
theorem secondaryWrite_normal (v : Byte) (p : PagingState) (normal : specialField v = false) :
    secondaryWrite v p = { p with
      romHigh := romHighField v
      specialPagingMode := false
      diskMotorOn := motorField v
      printerStrobe := printerField v } := by
  simp [secondaryWrite, secondaryAuxWrite, normal]

/-- R103: with bit 0 set a secondary write enters special mode and leaves the ROM high bit alone. -/
theorem secondaryWrite_special (v : Byte) (p : PagingState) (special : specialField v = true) :
    secondaryWrite v p = { p with
      pagingConfiguration := configurationField v
      specialPagingMode := true
      diskMotorOn := motorField v
      printerStrobe := printerField v } := by
  simp [secondaryWrite, secondaryAuxWrite, special]

end Sys2Proof.Machine

open Sys2Proof.Machine

/-- Settles O21: the gate is open, so the state takes the primary write; the fields of R101 are the bits of R66 by
definition. -/
theorem primaryWriteResult : Obligations.PrimaryWriteResult := by
  unfold Obligations.PrimaryWriteResult
  intro port v s unlocked
  rw [exec_outPagePri, gatedPrimaryWrite_unlocked v _ unlocked]
  rfl

/-- Settles O22: the gate is open and bit 0 selects normal mode. -/
theorem secondaryNormalWriteResult : Obligations.SecondaryNormalWriteResult := by
  unfold Obligations.SecondaryNormalWriteResult
  intro port v s unlocked normal
  rw [exec_outPageSec, gatedSecondaryWrite_unlocked _ v _ unlocked, secondaryWrite_normal v _ normal]
  rfl

/-- Settles O23: the gate is open and bit 0 selects special mode. -/
theorem secondarySpecialWriteResult : Obligations.SecondarySpecialWriteResult := by
  unfold Obligations.SecondarySpecialWriteResult
  intro port v s unlocked special
  rw [exec_outPageSec, gatedSecondaryWrite_unlocked _ v _ unlocked, secondaryWrite_special v _ special]
  rfl
end

section
/-!
Accessors that read one field of PagingState (spec 41_paging.md R106, R108): obligation O29.
-/

namespace Sys2Proof.Machine

/-- A step of the default build that takes a host call. -/
theorem step_host (s : State) (call : HostCall) (rest : List Request) (oldest : s.pending = .host call :: rest) :
    step s = .next (hostCall call (dequeue rest s)) := by
  rw [← stepFor_hardware, stepFor_host hardware s call rest oldest]

/-- Asking `CurrentRamPageIndex()` only sets the reply, to the RAM bank in either mode (R106). -/
theorem ask_currentRamPageIndex (s : State) :
    ask .currentRamPageIndex s = setReply (.ramPage s.paging.ramBank) s := rfl

/-- Asking `IsShadowScreenSelected()` only sets the reply, to the shadow flag in either mode (R108). -/
theorem ask_isShadowScreenSelected (s : State) :
    ask .isShadowScreenSelected s = setReply (.flag s.paging.shadowScreenSelected) s := rfl

end Sys2Proof.Machine

open Sys2Proof.Machine

/-- Settles O29: the step takes the host call off the queue, and the accessor only sets the reply. -/
theorem ramPageAndShadowAccessors : Obligations.RamPageAndShadowAccessors := by
  unfold Obligations.RamPageAndShadowAccessors
  intro s rest
  constructor
  · intro oldest
    rw [step_host s _ rest oldest, hostCall, ask_currentRamPageIndex]
    rfl
  · intro oldest
    rw [step_host s _ rest oldest, hostCall, ask_isShadowScreenSelected]
    rfl
end

section
/-!
The floating-bus read (spec 42_port_read.md R129): its encoding, its meaning and obligation O19.
-/

namespace Sys2Proof.Machine

/-- The joystick claim is a test of port bit 5: the wider mask of R82's first clause holds bit 5 too, so that clause
never claims a port the second does not (D5). -/
theorem joystickClaim_eq_bitReset (port : Port) : joystickClaim port = bitReset port 5 := by
  have bit5_iff : port &&& 0x20 = 0 ↔ port.getLsbD 5 = false :=
    and_one_shiftLeft_eq_zero_iff port (n := 5) (by decide)
  have wide_clause : port &&& 0xE0 = 0 → port.getLsbD 5 = false := fun clear => by
    simpa using congrArg (BitVec.getLsbD · 5) clear
  rw [joystickClaim, bitReset_eq_decide, Bool.eq_iff_iff]
  simp only [Bool.or_eq_true, beq_iff_eq, decide_eq_true_eq, bit5_iff, or_iff_right_of_imp wide_clause]

/-- The joystick claim on a word's port is word bit 13, inverted (R82, R60). -/
theorem joystickClaim_portOf (w : TxWord) : joystickClaim (portOf w) = !w.getLsbD (8 + 5) := by
  rw [joystickClaim_eq_bitReset, bitReset, portOf_getLsbD w 5 (by decide)]

/-- The even test on a word's port is word bit 8, inverted (R83, R60). -/
theorem isEven_portOf (w : TxWord) : isEven (portOf w) = !w.getLsbD (8 + 0) := by
  rw [isEven, bitReset, portOf_getLsbD w 0 (by decide)]

/-- A word of `KIND` 0b00 is a read: its port alone decides the class (R61). -/
theorem decode_read (c : Params) (w : TxWord) (kind : kindOf w = 0b00#2) :
    decode c w = decodeRead c (portOf w) :=
  if_pos kind

/-- A port that neither the joystick, the keyboard nor the sound device claims is the floating bus (R64). -/
theorem decodeRead_unclaimed (c : Params) (port : Port) (noJoystick : joystickClaim port = false)
    (odd : isEven port = false) (noSound : soundActivation c port = false) :
    decodeRead c port = .inFloating port := by
  simp [decodeRead, noJoystick, odd, noSound]

/-- `IN_FLOATING` in any build sets the read flag, emits its Notify and answers with `P_FLOAT` (R121, R122, R129). -/
theorem execFor_inFloating (c : Params) (port : Port) (s : State) :
    execFor c (.inFloating port) s =
      .next { s with inputRead := true, reply := .byte c.floating, events := [.notify port] } := rfl

end Sys2Proof.Machine

open Sys2Proof Sys2Proof.Machine

/-- Settles O19: the default build is the build whose `P_FLOAT` is 0xFF, and port bits 5 and 0 set are neither the
joystick's claim nor even. -/
theorem floatingReadResult : Obligations.FloatingReadResult := by
  unfold Obligations.FloatingReadResult
  refine ⟨fun port s => ?_, execFor_inFloating, fun w kind bit5 bit0 noSound => ?_⟩
  · rw [← execFor_hardware]
    exact execFor_inFloating hardware port s
  · have noJoystick : joystickClaim (portOf w) = false := by rw [joystickClaim_portOf, bit5, Bool.not_true]
    have odd : isEven (portOf w) = false := by rw [isEven_portOf, bit0, Bool.not_true]
    rw [decode_read hardware w kind]
    exact decodeRead_unclaimed hardware (portOf w) noJoystick odd noSound
end

section
/-!
The absorbed write (spec 43_port_write.md R149): its encoding, its meaning and obligation O40.
-/

namespace Sys2Proof.Machine

/-- A word of `KIND` 0b01 is a write: its port alone decides the class, which carries its data (R61). -/
theorem decode_write (c : Params) (w : TxWord) (kind : kindOf w = 0b01#2) :
    decode c w = decodeWrite c (portOf w) (dataOf w) := by
  simp [decode, kind]

/-- A port is on no paging port exactly when it is on neither paging pattern (R86). -/
theorem pagingPort_eq_false_iff (c : Params) (port : Port) :
    pagingPort c port = false ↔ primaryPaging c port = false ∧ secondaryPaging c port = false :=
  Bool.or_eq_false_iff

/-- A write that neither paging, the ULA nor the sound device claims is absorbed (R65). -/
theorem decodeWrite_unclaimed (c : Params) (port : Port) (data : Byte) (noPaging : pagingPort c port = false)
    (odd : isEven port = false) (noSelect : soundSelect c port = false) (noData : soundData c port = false) :
    decodeWrite c port data = .outAbsorbed port data := by
  obtain ⟨noPrimary, noSecondary⟩ := (pagingPort_eq_false_iff c port).mp noPaging
  simp [decodeWrite, noPrimary, noSecondary, odd, noSelect, noData]

/-- `OUT_ABSORBED` emits its Notify, returns nothing and drops the written byte (R141, R149). -/
theorem exec_outAbsorbed (port : Port) (v : Byte) (s : State) :
    exec (.outAbsorbed port v) s = .next { s with reply := .none, events := [.notify port] } := rfl

end Sys2Proof.Machine

open Sys2Proof Sys2Proof.Machine

/-- Settles O40: the meaning of the class is the first line of `WritePort` alone, and port bit 0 set leaves no line of
R65 but the last. -/
theorem absorbedWriteResult : Obligations.AbsorbedWriteResult := by
  unfold Obligations.AbsorbedWriteResult
  refine ⟨exec_outAbsorbed, fun w kind bit0 noPaging noSelect noData => ?_⟩
  have odd : isEven (portOf w) = false := by rw [isEven_portOf, bit0, Bool.not_true]
  rw [decode_write hardware w kind]
  exact decodeWrite_unclaimed hardware (portOf w) (dataOf w) noPaging odd noSelect noData
end

section
/-!
The snapshot read (spec 44_host.md R160): its meaning and obligation O46.
-/

namespace Sys2Proof.Machine

/-- `SnapshotGet()` only answers with the record and emits nothing (R160). -/
theorem hostCall_snapshotGet (s : State) :
    hostCall .snapshotGet s = { s with reply := .snapshot (snapshotOf s), events := [] } := rfl

/-- Taking a request off the queue does not change the record a snapshot would return. -/
theorem snapshotOf_dequeue (rest : List Request) (s : State) : snapshotOf (dequeue rest s) = snapshotOf s := rfl

end Sys2Proof.Machine

open Sys2Proof.Machine

/-- Settles O46: the step takes the host call off the queue, which leaves the ten recorded fields alone, and the call
only sets the reply and clears the events. -/
theorem snapshotGetResult : Obligations.SnapshotGetResult := by
  unfold Obligations.SnapshotGetResult
  intro s rest oldest
  rw [step_host s _ rest oldest, hostCall_snapshotGet, snapshotOf_dequeue]
  rfl
end

section
/-!
The fields of a word and the class they decode to (spec 30_encoding.md R60 to R65, R71): obligations O1, O2, O3, O6
and O8.
-/

namespace Sys2Proof

open Sys2Proof.Machine

/-- `KIND` is word bits 25 and 24 (R60). -/
theorem kindOf_eq_bits (w : TxWord) :
    kindOf w = BitVec.ofBool (w.getLsbD 25) ++ BitVec.ofBool (w.getLsbD 24) := by
  apply BitVec.eq_of_getLsbD_eq
  intro i hi
  rw [kindOf, BitVec.getLsbD_extractLsb', BitVec.getLsbD_append]
  match i, hi with
  | 0, _ => simp
  | 1, _ => simp

/-- Word bits 25 and 24 clear make a read (R61). -/
theorem kindOf_read (w : TxWord) (bit25 : w.getLsbD 25 = false) (bit24 : w.getLsbD 24 = false) :
    kindOf w = 0b00#2 := by
  rw [kindOf_eq_bits, bit25, bit24]
  rfl

/-- Word bit 25 clear and bit 24 set make a write (R61). -/
theorem kindOf_write (w : TxWord) (bit25 : w.getLsbD 25 = false) (bit24 : w.getLsbD 24 = true) :
    kindOf w = 0b01#2 := by
  rw [kindOf_eq_bits, bit25, bit24]
  rfl

/-- Word bit 25 tells the resets from the accesses (R61). -/
theorem getLsbD_25_eq (w : TxWord) : w.getLsbD 25 = (kindOf w).getLsbD 1 := by
  simp [kindOf]

/-! ## Decode by `KIND` -/

/-- A word of `KIND` 0b10 is a power-on reset (R61). -/
theorem decode_powerOn (c : Params) (w : TxWord) (kind : kindOf w = 0b10#2) : decode c w = .resetPoweron := by
  simp [decode, kind]

/-- A word of `KIND` 0b11 is a soft reset (R61). -/
theorem decode_soft (c : Params) (w : TxWord) (kind : kindOf w = 0b11#2) : decode c w = .resetSoft := by
  simp [decode, kind]

/-- The only class of `KIND` 0b10. -/
theorem eq_resetPoweron_of_kind (i : Instr) (kind : i.kind = 0b10#2) : i = .resetPoweron := by
  cases i
  case resetPoweron => rfl
  all_goals simp [Instr.kind] at kind

/-- The only class of `KIND` 0b11. -/
theorem eq_resetSoft_of_kind (i : Instr) (kind : i.kind = 0b11#2) : i = .resetSoft := by
  cases i
  case resetSoft => rfl
  all_goals simp [Instr.kind] at kind

/-! ## A port decodes to the class it fits, and to no other -/

/-- A read class that fits its port is the class of that port (R64). -/
theorem decodeRead_of_wellFormed (c : Params) (i : Instr) (kind : i.kind = 0b00#2)
    (fits : i.wellFormed c = true) : decodeRead c i.port = i := by
  cases i
  case inJoystick | inKeyboard | inSoundA | inSoundB | inFloating =>
    simp_all [Instr.wellFormed, Instr.port, decodeRead, soundActivation]
  all_goals simp [Instr.kind] at kind

/-- A write class that fits its port is the class of that port and byte (R65). -/
theorem decodeWrite_of_wellFormed (c : Params) (i : Instr) (kind : i.kind = 0b01#2)
    (fits : i.wellFormed c = true) : decodeWrite c i.port i.data = i := by
  cases i
  case outPagePri | outPageSec | outUla | outSndSel | outSndDat | outAbsorbed =>
    simp_all [Instr.wellFormed, Instr.port, Instr.data, decodeWrite, pagingPort]
  all_goals simp [Instr.kind] at kind

/-- The read class of a port fits it (R64). -/
theorem decodeRead_wellFormed (c : Params) (port : Port) : (decodeRead c port).wellFormed c = true := by
  unfold decodeRead
  split_ifs <;> simp_all [Instr.wellFormed, soundActivation]

/-- The write class of a port fits it (R65). -/
theorem decodeWrite_wellFormed (c : Params) (port : Port) (data : Byte) :
    (decodeWrite c port data).wellFormed c = true := by
  unfold decodeWrite
  split_ifs <;> simp_all [Instr.wellFormed, pagingPort]

/-- Masking a word masks its fields. -/
theorem txWord_and (kind kind' : BitVec 2) (port port' : Port) (data data' : Byte) :
    txWord kind port data &&& txWord kind' port' data' = txWord (kind &&& kind') (port &&& port') (data &&& data') := by
  unfold txWord
  rw [BitVec.and_append, BitVec.and_append]

/-- The canonical word of a read keeps `KIND` and `PORT` and clears `DATA` (R63). -/
theorem txWord_clear_data (w : TxWord) : txWord (kindOf w) (portOf w) 0#8 = w &&& 0x3FFFF00#26 := by
  have mask : 0x3FFFF00#26 = txWord (BitVec.allOnes 2) (BitVec.allOnes 16) 0#8 := by decide
  conv_rhs => rw [← txWord_fields w, mask, txWord_and]
  rw [BitVec.and_allOnes, BitVec.and_allOnes, BitVec.and_zero]

/-- The canonical word of a reset keeps `KIND` alone (R62, R63). -/
theorem txWord_clear_port_data (w : TxWord) : txWord (kindOf w) 0#16 0#8 = w &&& 0x3000000#26 := by
  have mask : 0x3000000#26 = txWord (BitVec.allOnes 2) 0#16 0#8 := by decide
  conv_rhs => rw [← txWord_fields w, mask, txWord_and]
  rw [BitVec.and_allOnes, BitVec.and_zero, BitVec.and_zero]

end Sys2Proof

open Sys2Proof Sys2Proof.Machine

/-- Settles O1: the word of a class carries the class's `KIND`, port and data, and a port decodes to the class that fits
it. -/
theorem decodeEncodeRoundTrip : Obligations.DecodeEncodeRoundTrip := by
  unfold Obligations.DecodeEncodeRoundTrip
  intro c i fits
  obtain ⟨kind_eq, port_eq, data_eq⟩ := Sys2Proof.Laws.EncodedFields.of_txWord i
  rcases kind_cases i.kind with kind | kind | kind | kind
  · rw [decode_read c _ (kind_eq.trans kind), port_eq, decodeRead_of_wellFormed c i kind fits]
  · rw [decode_write c _ (kind_eq.trans kind), port_eq, data_eq, decodeWrite_of_wellFormed c i kind fits]
  · rw [decode_powerOn c _ (kind_eq.trans kind), eq_resetPoweron_of_kind i kind]
  · rw [decode_soft c _ (kind_eq.trans kind), eq_resetSoft_of_kind i kind]

/-- Settles O2: one case for each `KIND`; the decoded class carries the word's own fields, but for the ignored ones. -/
theorem encodeDecodeIsCanonicalWord : Obligations.EncodeDecodeIsCanonicalWord := by
  unfold Obligations.EncodeDecodeIsCanonicalWord
  intro c w
  change _ ∧ encode (decode c w) = if kindOf w = 0b00#2 then _ else if kindOf w = 0b01#2 then _ else _
  rcases kind_cases (kindOf w) with kind | kind | kind | kind
  · obtain ⟨port_eq, data_eq, kind_eq⟩ := decodeRead_port c (portOf w)
    rw [decode_read c w kind, if_pos kind, encode, port_eq, data_eq, kind_eq, ← kind]
    exact ⟨decodeRead_wellFormed c _, txWord_clear_data w⟩
  · obtain ⟨port_eq, data_eq, kind_eq⟩ := decodeWrite_port c (portOf w) (dataOf w)
    rw [decode_write c w kind, if_neg (by rw [kind]; decide), if_pos kind, encode, port_eq, data_eq, kind_eq, ← kind]
    exact ⟨decodeWrite_wellFormed c _ _, txWord_fields w⟩
  · rw [decode_powerOn c w kind, if_neg (by rw [kind]; decide), if_neg (by rw [kind]; decide), ← txWord_clear_port_data,
      kind]
    exact ⟨rfl, rfl⟩
  · rw [decode_soft c w kind, if_neg (by rw [kind]; decide), if_neg (by rw [kind]; decide), ← txWord_clear_port_data,
      kind]
    exact ⟨rfl, rfl⟩

/-- Settles O3: `decodeRead` is a chain of tests, and each clause's hypotheses choose its line. -/
theorem readDecodePriority : Obligations.ReadDecodePriority := by
  unfold Obligations.ReadDecodePriority
  intro c w bit25 bit24
  rw [decode_read c w (kindOf_read w bit25 bit24), decodeRead]
  refine ⟨fun claim => if_pos claim, fun noClaim even => ?_, fun noClaim odd sound => ?_, fun noClaim odd noSound => ?_⟩
  · exact (if_neg (ne_true_of_eq_false noClaim)).trans (if_pos even)
  · exact ((if_neg (ne_true_of_eq_false noClaim)).trans (if_neg (ne_true_of_eq_false odd))).trans (if_pos sound)
  · exact decodeRead_unclaimed c _ noClaim odd noSound

/-- Settles O6: the word is assembled from its fields, and a reset's class depends on `KIND` alone. -/
theorem resetWordsIgnorePortAndData : Obligations.ResetWordsIgnorePortAndData := by
  unfold Obligations.ResetWordsIgnorePortAndData
  intro c port data
  exact ⟨decode_powerOn c _ (kindOf_txWord _ port data), decode_soft c _ (kindOf_txWord _ port data)⟩

/-- Settles O8: thirteen closed words, evaluated. -/
theorem specWordsDecode : Obligations.SpecWordsDecode := by
  unfold Obligations.SpecWordsDecode
  decide
end

section
/-!
The default port patterns bit by bit, and the opcode table at port level (spec 40_decoder.md R80 to R89, 30_encoding.md
R64, R65): obligations O4, O5, O7, O9 and O11.
-/

namespace Sys2Proof.Machine

/-- A match compares every bit of the masked port with the pattern's, in a form that evaluates on a literal pattern. -/
theorem matchPort_eq_all (port : Port) (p : PortPattern) :
    matchPort port p =
      [0, 1, 2, 3, 4, 5, 6, 7, 8, 9, 10, 11, 12, 13, 14, 15].all
        (fun k => (port.getLsbD k && p.mask.getLsbD k) == p.pattern.getLsbD k) := by
  change _ = (List.range 16).all _
  rw [Bool.eq_iff_iff, matchPort_iff]
  simp only [List.all_eq_true, List.mem_range, beq_iff_eq]

/-- The default primary pattern tests port bits 15, 14 and 1 (R84, D2). -/
theorem primaryPaging_hardware (port : Port) :
    primaryPaging hardware port = (!port.getLsbD 15 && port.getLsbD 14 && !port.getLsbD 1) := by
  rw [primaryPaging, matchPort_eq_all]
  simp [hardware]
  ac_rfl

/-- The default secondary pattern tests port bits 15 to 12 and 1 (R85, D3). -/
theorem secondaryPaging_hardware (port : Port) :
    secondaryPaging hardware port =
      (!port.getLsbD 15 && !port.getLsbD 14 && !port.getLsbD 13 && port.getLsbD 12 && !port.getLsbD 1) := by
  rw [secondaryPaging, matchPort_eq_all]
  simp [hardware]
  ac_rfl

/-- The default select pattern tests port bits 15, 14 and 1 (R87, D4). -/
theorem soundSelect_hardware (port : Port) :
    soundSelect hardware port = (port.getLsbD 15 && port.getLsbD 14 && !port.getLsbD 1) := by
  rw [soundSelect, matchPort_eq_all]
  simp [hardware]
  ac_rfl

/-- The default data pattern tests port bits 15, 14 and 1 (R88, D4). -/
theorem soundData_hardware (port : Port) :
    soundData hardware port = (port.getLsbD 15 && !port.getLsbD 14 && !port.getLsbD 1) := by
  rw [soundData, matchPort_eq_all]
  simp [hardware]
  ac_rfl

/-- The two default sound patterns differ in bit 14 alone, so that their union tests bits 15 and 1 (R89). -/
theorem soundActivation_hardware (port : Port) :
    soundActivation hardware port = (port.getLsbD 15 && !port.getLsbD 1) := by
  rw [soundActivation, soundSelect_hardware, soundData_hardware]
  cases port.getLsbD 14 <;> simp

/-- The union of the two default sound patterns is itself a pattern (R89). -/
theorem soundActivation_hardware_eq_matchPort (port : Port) :
    soundActivation hardware port = matchPort port ⟨0x8002, 0x8000⟩ := by
  rw [soundActivation_hardware, matchPort_eq_all]
  simp 
  ac_rfl

/-- No port is on both default paging patterns: they differ in bit 14 (D2, D3). -/
theorem paging_hardware_disjoint (port : Port) :
    ¬ (primaryPaging hardware port = true ∧ secondaryPaging hardware port = true) := by
  rw [primaryPaging_hardware, secondaryPaging_hardware]
  cases port.getLsbD 14 <;> simp

/-- No port is on both default sound patterns: they differ in bit 14 (D4). -/
theorem sound_hardware_disjoint (port : Port) :
    ¬ (soundSelect hardware port = true ∧ soundData hardware port = true) := by
  rw [soundSelect_hardware, soundData_hardware]
  cases port.getLsbD 14 <;> simp


end Sys2Proof.Machine

namespace Sys2Proof

open Sys2Proof.Machine

/-! ## The rows' port patterns as predicates of the Bit/Mask Decoder -/

theorem matchPort_joystick_row (port : Port) :
    matchPort port ⟨0x0020, 0x0000⟩ = joystickClaim port := by
  rw [matchPort_eq_all]
  simp [joystickClaim_eq_bitReset, bitReset]

theorem matchPort_keyboard_row (port : Port) :
    matchPort port ⟨0x0021, 0x0020⟩ = (!joystickClaim port && isEven port) := by
  rw [matchPort_eq_all]
  simp [joystickClaim_eq_bitReset, isEven, bitReset]
  ac_rfl

theorem matchPort_soundA_row (port : Port) :
    matchPort port ⟨0xC023, 0xC021⟩ = (!joystickClaim port && !isEven port && soundSelect hardware port) := by
  rw [matchPort_eq_all]
  simp [joystickClaim_eq_bitReset, isEven, soundSelect_hardware, bitReset]
  ac_rfl

theorem matchPort_soundB_row (port : Port) :
    matchPort port ⟨0xC023, 0x8021⟩ = (!joystickClaim port && !isEven port && soundData hardware port) := by
  rw [matchPort_eq_all]
  simp [joystickClaim_eq_bitReset, isEven, soundData_hardware, bitReset]
  ac_rfl

theorem matchPort_floating_row (port : Port) :
    matchPort port ⟨0x0021, 0x0021⟩ = (!joystickClaim port && !isEven port) := by
  rw [matchPort_eq_all]
  simp [joystickClaim_eq_bitReset, isEven, bitReset]
  ac_rfl

theorem matchPort_primary_row (port : Port) :
    matchPort port ⟨0xC002, 0x4000⟩ = primaryPaging hardware port := rfl

theorem matchPort_secondary_row (port : Port) :
    matchPort port ⟨0xF002, 0x1000⟩ = secondaryPaging hardware port := rfl

theorem matchPort_ula_row (port : Port) :
    matchPort port ⟨0x0001, 0x0000⟩ = isEven port := by
  rw [matchPort_eq_all]
  simp [isEven, bitReset]

theorem matchPort_select_row (port : Port) :
    matchPort port ⟨0xC003, 0xC001⟩ = (!isEven port && soundSelect hardware port) := by
  rw [matchPort_eq_all]
  simp [isEven, soundSelect_hardware, bitReset]
  ac_rfl

theorem matchPort_data_row (port : Port) :
    matchPort port ⟨0xC003, 0x8001⟩ = (!isEven port && soundData hardware port) := by
  rw [matchPort_eq_all]
  simp [isEven, soundData_hardware, bitReset]
  ac_rfl

theorem matchPort_absorbed_row (port : Port) :
    matchPort port ⟨0x0001, 0x0001⟩ = (!isEven port) := by
  rw [matchPort_eq_all]
  simp [isEven, bitReset]

theorem matchPort_reset_row (port : Port) : matchPort port ⟨0, 0⟩ = true := by
  simp [matchPort]

/-! ## The opcode table at port level -/

/-- A row of the table from its `KIND` and the mask and pattern of its port; no row tests `DATA`. -/
def portRow (mnemonic : String) (kind : BitVec 2) (mask pattern : BitVec 16) (priority : Nat) : OpcodeRow :=
  ⟨mnemonic, txWord kind pattern 0, txWord (BitVec.allOnes 2) mask 0, priority⟩

/-- A row matches a word of its `KIND` whose port is on its pattern. -/
theorem portRow_matchesWord (mnemonic : String) (kind : BitVec 2) (mask pattern : BitVec 16) (priority : Nat)
    (w : TxWord) :
    (portRow mnemonic kind mask pattern priority).matchesWord w =
      (kindOf w == kind && matchPort (portOf w) ⟨mask, pattern⟩) := by
  have fields : w &&& txWord (BitVec.allOnes 2) mask 0 = txWord (kindOf w) (portOf w &&& mask) 0 := by
    conv_lhs => rw [← txWord_fields w, txWord_and, BitVec.and_allOnes]
    exact congrArg _ BitVec.and_zero
  rw [Bool.eq_iff_iff, OpcodeRow.matchesWord, portRow, fields]
  simp only [matchPort, Bool.and_eq_true, beq_iff_eq]
  constructor
  · intro h
    have kind_eq := congrArg kindOf h
    have port_eq := congrArg portOf h
    rw [kindOf_txWord, kindOf_txWord] at kind_eq
    rw [portOf_txWord, portOf_txWord] at port_eq
    exact ⟨kind_eq, port_eq⟩
  · rintro ⟨kind_eq, port_eq⟩
    rw [kind_eq, port_eq]

/-- The read rows' port masks and patterns (spec/opcode_table.json). -/
theorem readRows_eq_portRows : readRows =
    [portRow "IN_JOYSTICK" 0b00#2 0x0020 0x0000 1,
     portRow "IN_KEYBOARD" 0b00#2 0x0021 0x0020 2,
     portRow "IN_SOUND_A" 0b00#2 0xC023 0xC021 3,
     portRow "IN_SOUND_B" 0b00#2 0xC023 0x8021 3,
     portRow "IN_FLOATING" 0b00#2 0x0021 0x0021 4] := by
  decide

/-- The write rows' port masks and patterns (spec/opcode_table.json). -/
theorem writeRows_eq_portRows : writeRows =
    [portRow "OUT_PAGE_PRI" 0b01#2 0xC002 0x4000 1,
     portRow "OUT_PAGE_SEC" 0b01#2 0xF002 0x1000 2,
     portRow "OUT_ULA" 0b01#2 0x0001 0x0000 3,
     portRow "OUT_SND_SEL" 0b01#2 0xC003 0xC001 4,
     portRow "OUT_SND_DAT" 0b01#2 0xC003 0x8001 5,
     portRow "OUT_ABSORBED" 0b01#2 0x0001 0x0001 6] := by
  decide

/-- The reset rows test no port bit (spec/opcode_table.json). -/
theorem resetRows_eq_portRows : resetRows =
    [portRow "RESET_POWERON" 0b10#2 0 0 1, portRow "RESET_SOFT" 0b11#2 0 0 1] := by
  decide

end Sys2Proof

open Sys2Proof Sys2Proof.Machine

/-- Settles O9: the first equation is the definition with `decide` for `==`; the second is the reduction to bit 5. -/
theorem joystickClaimIsPortBitFive : Obligations.JoystickClaimIsPortBitFive := by
  unfold Obligations.JoystickClaimIsPortBitFive
  intro port
  refine ⟨?_, joystickClaim_eq_bitReset port⟩
  rw [joystickClaim, Bool.decide_or, beq_eq_decide, beq_eq_decide]
  rfl

/-- Settles O11, pattern by pattern. -/
theorem defaultPortPatterns : Obligations.DefaultPortPatterns := by
  unfold Obligations.DefaultPortPatterns
  intro port
  exact ⟨primaryPaging_hardware port, secondaryPaging_hardware port, soundSelect_hardware port,
    soundData_hardware port, paging_hardware_disjoint port, sound_hardware_disjoint port, rfl,
    soundActivation_hardware_eq_matchPort port⟩

/-- Settles O4: each test of R64 on the word's port is a test of word bits under the default masks. -/
theorem readWordsDecodeByPortBits : Obligations.ReadWordsDecodeByPortBits := by
  unfold Obligations.ReadWordsDecodeByPortBits
  intro w bit25 bit24
  rw [decode_read hardware w (kindOf_read w bit25 bit24), decodeRead]
  simp only [joystickClaim_portOf, isEven_portOf, soundActivation_hardware, soundSelect_hardware,
    portOf_getLsbD w _ (show 1 < 16 by decide), portOf_getLsbD w _ (show 14 < 16 by decide),
    portOf_getLsbD w _ (show 15 < 16 by decide), Bool.and_eq_true, Bool.not_eq_true']
  refine if_congr Iff.rfl rfl (if_congr Iff.rfl rfl (ite_congr rfl (fun sound => ?_) fun _ => rfl))
  exact if_congr ⟨fun h => h.1.2, fun bit14 => ⟨⟨sound.1, bit14⟩, sound.2⟩⟩ rfl rfl

/-- Settles O5: each test of R65 on the word's port is a test of word bits under the default masks. -/
theorem writeWordsDecodeByPortBits : Obligations.WriteWordsDecodeByPortBits := by
  unfold Obligations.WriteWordsDecodeByPortBits
  intro w bit25 bit24
  rw [decode_write hardware w (kindOf_write w bit25 bit24), decodeWrite]
  simp only [primaryPaging_hardware, secondaryPaging_hardware, isEven_portOf, soundSelect_hardware, soundData_hardware,
    portOf_getLsbD w _ (show 1 < 16 by decide), portOf_getLsbD w _ (show 12 < 16 by decide),
    portOf_getLsbD w _ (show 13 < 16 by decide), portOf_getLsbD w _ (show 14 < 16 by decide),
    portOf_getLsbD w _ (show 15 < 16 by decide), Bool.and_eq_true, Bool.not_eq_true', and_assoc]
  rfl

/-- Settles O7: within the word's `KIND` the rows are the tests of R64 or R65 in order, each row already excluding
some of the ones before it. -/
theorem opcodeTableAgreesWithDecode : Obligations.OpcodeTableAgreesWithDecode := by
  unfold Obligations.OpcodeTableAgreesWithDecode
  intro w
  rcases kind_cases (kindOf w) with kind | kind | kind | kind
  · rw [decode_read hardware w kind, tableMnemonic, kind, rowsOfKind, if_pos rfl, readRows_eq_portRows]
    simp only [List.find?_cons, portRow_matchesWord, kind, BEq.rfl, Bool.true_and, matchPort_joystick_row,
      matchPort_keyboard_row, matchPort_soundA_row, matchPort_soundB_row, matchPort_floating_row]
    unfold decodeRead soundActivation
    split_ifs <;> simp_all [portRow, Instr.mnemonic]
  · rw [decode_write hardware w kind, tableMnemonic, kind, rowsOfKind, if_neg (by decide), if_pos rfl,
      writeRows_eq_portRows]
    simp only [List.find?_cons, portRow_matchesWord, kind, BEq.rfl, Bool.true_and, matchPort_primary_row,
      matchPort_secondary_row, matchPort_ula_row, matchPort_select_row, matchPort_data_row, matchPort_absorbed_row]
    unfold decodeWrite
    split_ifs <;> simp_all [portRow, Instr.mnemonic]
  · rw [decode_powerOn hardware w kind, tableMnemonic, kind, rowsOfKind, if_neg (by decide), if_neg (by decide),
      resetRows_eq_portRows]
    simp only [List.find?_cons, portRow_matchesWord, kind, matchPort_reset_row, BEq.rfl, Bool.true_and]
    rfl
  · rw [decode_soft hardware w kind, tableMnemonic, kind, rowsOfKind, if_neg (by decide), if_neg (by decide),
      resetRows_eq_portRows]
    simp only [List.find?_cons, portRow_matchesWord, kind, matchPort_reset_row, Bool.and_true]
    rfl
end

section
/-!
The joystick and sound reads and the frame of every read (spec 42_port_read.md R120 to R123, R128, R130): obligations
O12, O13, O18 and O20.
-/

namespace Sys2Proof.Machine

/-- `IN_JOYSTICK` in any build answers with the joystick's byte (R123). -/
theorem execFor_inJoystick (c : Params) (port : Port) (s : State) :
    execFor c (.inJoystick port) s =
      .next { s with inputRead := true, reply := .byte (readJoystick c s), events := [.notify port] } := rfl

/-- `IN_KEYBOARD` in any build answers with the composite byte (R124 to R127). -/
theorem execFor_inKeyboard (c : Params) (port : Port) (s : State) :
    execFor c (.inKeyboard port) s =
      .next { s with inputRead := true, reply := .byte (readKeyboard c port s), events := [.notify port] } := rfl

/-- `IN_SOUND_A` in any build answers with the selected register's read-back (R128). -/
theorem execFor_inSoundA (c : Params) (port : Port) (s : State) :
    execFor c (.inSoundA port) s =
      .next { s with inputRead := true, reply := .byte (readSound c s), events := [.notify port] } := rfl

/-- `IN_SOUND_B` has the effect of `IN_SOUND_A` (R128). -/
theorem execFor_inSoundB (c : Params) (port : Port) (s : State) :
    execFor c (.inSoundB port) s = execFor c (.inSoundA port) s := rfl

/-- A read class of any build only starts the access and answers with some byte (R120). -/
theorem execFor_read (c : Params) (i : Instr) (s : State) (kind : i.kind = 0b00#2) :
    ∃ v, execFor c i s = .next (answer v (beginRead i.port s)) := by
  cases i
  case inJoystick | inKeyboard | inSoundA | inSoundB | inFloating => exact ⟨_, rfl⟩
  all_goals simp [Instr.kind] at kind

/-- A read word whose port bit 5 is 0 is the joystick's in any build (R64, R82). -/
theorem decode_inJoystick (c : Params) (w : TxWord) (kind : kindOf w = 0b00#2) (bit5 : w.getLsbD (8 + 5) = false) :
    decode c w = .inJoystick (portOf w) := by
  have claim : joystickClaim (portOf w) = true := by rw [joystickClaim_portOf, bit5, Bool.not_false]
  rw [decode_read c w kind, decodeRead, if_pos claim]

/-- A port on a sound pattern that neither the joystick nor the keyboard claims is one of the sound reads (R64). -/
theorem decodeRead_sound (c : Params) (port : Port) (noJoystick : joystickClaim port = false)
    (odd : isEven port = false) (sound : soundActivation c port = true) :
    decodeRead c port = if soundSelect c port then .inSoundA port else .inSoundB port := by
  simp [decodeRead, noJoystick, odd, sound]

/-- The joystick's byte is a function of the two joystick lines (R123). -/
theorem readJoystick_congr (c : Params) (s t : State) (present : s.inputs.joyPresent = t.inputs.joyPresent)
    (line : s.inputs.joyLine = t.inputs.joyLine) : readJoystick c s = readJoystick c t := by
  rw [readJoystick, readJoystick, present, line]

end Sys2Proof.Machine

open Sys2Proof Sys2Proof.Machine

/-- Settles O12: the meaning is the device's byte behind the start of a read; bit 5 clear is the first line of R64. -/
theorem joystickReadResult : Obligations.JoystickReadResult := by
  unfold Obligations.JoystickReadResult
  refine ⟨fun port s => ?_, execFor_inJoystick, decode_inJoystick hardware⟩
  rw [← execFor_hardware]
  exact execFor_inJoystick hardware port s

/-- Settles O13: both reads are the joystick's, and its byte sees the two joystick lines alone. -/
theorem joystickReadDependsOnJoystickOnly : Obligations.JoystickReadDependsOnJoystickOnly := by
  unfold Obligations.JoystickReadDependsOnJoystickOnly
  intro w s t kind bit5 present line
  rw [decode_inJoystick hardware w kind bit5, ← execFor_hardware, ← execFor_hardware]
  exact ⟨_, _, execFor_inJoystick hardware _ s, execFor_inJoystick hardware _ t,
    congrArg Reply.byte (readJoystick_congr hardware s t present line)⟩

/-- Settles O18: the two classes have one effect, and an activated port is one of them whichever pattern it is on. -/
theorem soundReadResult : Obligations.SoundReadResult := by
  unfold Obligations.SoundReadResult
  refine ⟨fun port s => ?_, fun c port s => ⟨execFor_inSoundA c port s, execFor_inSoundB c port s⟩,
    fun w kind bit5 bit0 sound => ?_⟩
  · rw [← execFor_hardware, ← execFor_hardware, execFor_inSoundB]
    exact ⟨execFor_inSoundA hardware port s, execFor_inSoundA hardware port s⟩
  · have noJoystick : joystickClaim (portOf w) = false := by rw [joystickClaim_portOf, bit5, Bool.not_true]
    have odd : isEven (portOf w) = false := by rw [isEven_portOf, bit0, Bool.not_true]
    rw [decode_read hardware w kind, decodeRead_sound hardware _ noJoystick odd sound]
    exact ite_eq_or_eq _ _ _

/-- Settles O20: a read is the start of an access and an answer, and neither touches another field. -/
theorem readFrame : Obligations.ReadFrame := by
  unfold Obligations.ReadFrame
  intro i s kind
  obtain ⟨v, run⟩ := execFor_read hardware i s kind
  exact ⟨_, v, (execFor_hardware i s).symm.trans run, rfl, rfl, rfl, rfl, rfl, rfl, rfl, rfl, rfl, rfl⟩
end

section
/-!
The composite keyboard read (spec 42_port_read.md R124 to R127): obligations O14, O15, O16 and O17.
-/

namespace Sys2Proof.Machine

/-- A bit of the row AND over any list of half-rows, from any start: every selected row must have it. -/
theorem foldl_and_rows_getLsbD (rows : Vector Byte 8) (port : Port) (k : Nat) (l : List (Fin 8)) (acc : Byte) :
    (l.foldl (fun acc i => if rowSelected port i then acc &&& rows[i] else acc) acc).getLsbD k = true ↔
      acc.getLsbD k = true ∧ ∀ i ∈ l, rowSelected port i = true → rows[i].getLsbD k = true := by
  induction l generalizing acc with
  | nil => simp
  | cons i l ih =>
    rw [List.foldl_cons, ih]
    by_cases selected : rowSelected port i = true
    · simp [selected, and_assoc]
    · simp [selected]

/-- A bit of the row AND is 1 when it is 1 in every selected half-row (R124). -/
theorem rowAnd_getLsbD (rows : Vector Byte 8) (port : Port) {k : Nat} (hk : k < 8) :
    (rowAnd rows port).getLsbD k = true ↔ ∀ i : Fin 8, port.getLsbD (8 + i) = false → rows[i].getLsbD k = true := by
  have start : (0xFF : Byte).getLsbD k = true := by
    have all : ∀ k < 8, (0xFF : Byte).getLsbD k = true := by decide
    exact all k hk
  rw [rowAnd, foldl_and_rows_getLsbD]
  simp only [start, mem_halfRows, rowSelected_iff, true_and, forall_const]

/-- The mask keeps bits 4 to 0 (R125). -/
theorem maskAndForce_low (acc : Byte) {k : Nat} (hk : k < 5) : (maskAndForce acc).getLsbD k = acc.getLsbD k := by
  have masks : ∀ k < 5, (0x1F : Byte).getLsbD k = true ∧ (0xA0 : Byte).getLsbD k = false := by decide
  obtain ⟨kept, unforced⟩ := masks k hk
  rw [maskAndForce, BitVec.getLsbD_or, BitVec.getLsbD_and, kept, unforced, Bool.and_true, Bool.or_false]

/-- The mask forces bits 7, 6 and 5 to 1, 0 and 1 (R125). -/
theorem maskAndForce_high (acc : Byte) : (maskAndForce acc).extractLsb' 5 3 = 0b101#3 := by
  rw [maskAndForce, BitVec.extractLsb'_or, BitVec.extractLsb'_and, show (0x1F : Byte).extractLsb' 5 3 = 0#3 by decide,
    BitVec.and_zero]
  decide

/-- The bits the mask forces, one by one (R125). -/
theorem maskAndForce_forced (acc : Byte) :
    (maskAndForce acc).getLsbD 5 = true ∧ (maskAndForce acc).getLsbD 6 = false ∧
      (maskAndForce acc).getLsbD 7 = true := by
  simp [maskAndForce]

/-- The bits of a keyboard read: the overlay in `P_TAPE_BIT`, the masked row AND elsewhere (R124 to R127). -/
theorem readKeyboard_getLsbD (c : Params) (port : Port) (s : State) {k : Nat} (hk : k < 8) :
    (readKeyboard c port s).getLsbD k =
      if k = c.tapeBit.val then overlay c s else (maskAndForce (rowAnd s.inputs.keyRow port)).getLsbD k :=
  setBit_getLsbD _ _ _ _ hk

/-- The default overlay bit is bit 6 (D8). -/
theorem tapeBit_hardware : hardware.tapeBit.val = 6 := rfl

/-- The default overlay is the ear sample, or the complement of bit 4 of the latch (R126, R127). -/
theorem overlay_hardware (s : State) :
    overlay hardware s = if s.inputs.tapeActive then s.inputs.earSample else !s.lastUlaOut.getLsbD 4 := rfl

/-- Bits 4 to 0 of a keyboard read are the row AND's (R124, R125). -/
theorem readKeyboard_low (port : Port) (s : State) {k : Nat} (hk : k < 5) :
    (readKeyboard hardware port s).getLsbD k = true ↔
      ∀ i : Fin 8, port.getLsbD (8 + i) = false → s.inputs.keyRow[i].getLsbD k = true := by
  rw [readKeyboard_getLsbD hardware port s (by omega), tapeBit_hardware, if_neg (by omega), maskAndForce_low _ hk,
    rowAnd_getLsbD _ _ (by omega)]

/-- Bits 7, 6 and 5 of a keyboard read are 1, the overlay and 1 (R125 to R127). -/
theorem readKeyboard_high (port : Port) (s : State) :
    (readKeyboard hardware port s).getLsbD 5 = true ∧ (readKeyboard hardware port s).getLsbD 6 = overlay hardware s ∧
      (readKeyboard hardware port s).getLsbD 7 = true := by
  obtain ⟨bit5, -, bit7⟩ := maskAndForce_forced (rowAnd s.inputs.keyRow port)
  refine ⟨?_, ?_, ?_⟩ <;> rw [readKeyboard_getLsbD hardware port s (by decide), tapeBit_hardware]
  · exact bit5
  · exact if_pos rfl
  · exact bit7

/-- What a keyboard read can see: bits 4 to 0 of the selected half-rows, and the overlay (R124 to R127). -/
theorem readKeyboard_congr (port : Port) (s t : State)
    (rows : ∀ i : Fin 8, port.getLsbD (8 + i) = false →
      s.inputs.keyRow[i].extractLsb' 0 5 = t.inputs.keyRow[i].extractLsb' 0 5)
    (overlays : overlay hardware s = overlay hardware t) :
    readKeyboard hardware port s = readKeyboard hardware port t := by
  have low_bits : ∀ k < 5, ∀ i : Fin 8, port.getLsbD (8 + i) = false →
      s.inputs.keyRow[i].getLsbD k = t.inputs.keyRow[i].getLsbD k := fun k hk i selected => by
    simpa [hk] using congrArg (BitVec.getLsbD · k) (rows i selected)
  obtain ⟨s5, s6, s7⟩ := readKeyboard_high port s
  obtain ⟨t5, t6, t7⟩ := readKeyboard_high port t
  apply BitVec.eq_of_getLsbD_eq
  intro k hk
  by_cases low : k < 5
  · rw [Bool.eq_iff_iff, readKeyboard_low port s low, readKeyboard_low port t low]
    exact forall₂_congr fun i selected => by rw [low_bits k low i selected]
  · obtain rfl | rfl | rfl : k = 5 ∨ k = 6 ∨ k = 7 := by omega
    · exact s5.trans t5.symm
    · exact s6.trans (overlays.trans t6.symm)
    · exact s7.trans t7.symm

end Sys2Proof.Machine

open Sys2Proof Sys2Proof.Machine

/-- Settles O14: the row AND by the induction over its list of half-rows, the mask by its two constants. -/
theorem keyboardRowAndMask : Obligations.KeyboardRowAndMask := by
  unfold Obligations.KeyboardRowAndMask
  exact ⟨fun rows port _ hk => rowAnd_getLsbD rows port hk, fun acc _ hk => maskAndForce_low acc hk, maskAndForce_high⟩

/-- Settles O15: the last operation of the read writes the overlay's bit. -/
theorem keyboardOverlayBit : Obligations.KeyboardOverlayBit := by
  unfold Obligations.KeyboardOverlayBit
  intro c port s
  exact ⟨_, execFor_inKeyboard c port s, fun k hk => readKeyboard_getLsbD c port s hk⟩

/-- Settles O16: the low bits are the rows', and the overlay's bit 6 lies between the two forced ones. -/
theorem keyboardReadResult : Obligations.KeyboardReadResult := by
  unfold Obligations.KeyboardReadResult
  intro port s
  obtain ⟨bit5, bit6, bit7⟩ := readKeyboard_high port s
  refine ⟨readKeyboard hardware port s, ?_, fun k hk => readKeyboard_low port s hk, bit5,
    bit6.trans (overlay_hardware s), bit7⟩
  rw [← execFor_hardware]
  exact execFor_inKeyboard hardware port s

/-- Settles O17: the overlays of the two states agree, and so do the rows the read can see. -/
theorem keyboardReadSeesSelectedRowsOnly : Obligations.KeyboardReadSeesSelectedRowsOnly := by
  unfold Obligations.KeyboardReadSeesSelectedRowsOnly
  intro port s t rows active ear bit4
  have overlays : overlay hardware s = overlay hardware t := by
    rw [overlay_hardware, overlay_hardware, active, ear, bit4]
  rw [← execFor_hardware, ← execFor_hardware]
  exact ⟨_, _, execFor_inKeyboard hardware port s, execFor_inKeyboard hardware port t,
    congrArg Reply.byte (readKeyboard_congr port s t rows overlays)⟩
end

section
/-!
The paging writes under the lock, in every build, and the round trip through special mode (spec 41_paging.md R100 to
R104): obligations O24, O25 and O32.
-/

namespace Sys2Proof.Machine

/-- `OUT_PAGE_PRI` in any build updates PagingState by the gated primary write (R100, R101). -/
theorem execFor_outPagePri (c : Params) (port : Port) (v : Byte) (s : State) :
    execFor c (.outPagePri port v) s = .next { s with
      paging := gatedPrimaryWrite v s.paging, reply := .none, events := [.notify port] } := rfl

/-- `OUT_PAGE_SEC` in any build updates PagingState by the gated secondary write (R100, R102 to R104). -/
theorem execFor_outPageSec (c : Params) (port : Port) (v : Byte) (s : State) :
    execFor c (.outPageSec port v) s = .next { s with
      paging := gatedSecondaryWrite c v s.paging, reply := .none, events := [.notify port] } := rfl

/-- A set lock closes the gate of the primary port (R100). -/
theorem gatedPrimaryWrite_locked (v : Byte) (p : PagingState) (locked : p.pagingPermanentlyDisabled = true) :
    gatedPrimaryWrite v p = p :=
  if_pos locked

/-- A set lock closes the gate of the secondary port where it also gates the aux bits (R100, D9). -/
theorem gatedSecondaryWrite_locked (c : Params) (v : Byte) (p : PagingState)
    (locked : p.pagingPermanentlyDisabled = true) (gated : c.auxGated = true) : gatedSecondaryWrite c v p = p :=
  (if_pos locked).trans (if_pos gated)

/-- With the lock set, the entry point at most writes the aux bits, in a build that does not gate them (R100, R104). -/
theorem onPagingControlPortWrite_locked (c : Params) (port : Port) (v : Byte) (p : PagingState)
    (locked : p.pagingPermanentlyDisabled = true) :
    onPagingControlPortWrite c port v p =
      if secondaryPaging c port = true ∧ primaryPaging c port = false ∧ c.auxGated = false then secondaryAuxWrite v p
      else p := by
  rw [onPagingControlPortWrite, if_pos locked]
  exact if_congr (by simp [and_assoc]) rfl rfl

/-- With the lock set, the entry point of a build that gates the aux bits changes nothing (R105). -/
theorem onPagingControlPortWrite_locked_gated (c : Params) (port : Port) (v : Byte) (p : PagingState)
    (locked : p.pagingPermanentlyDisabled = true) (gated : c.auxGated = true) :
    onPagingControlPortWrite c port v p = p := by
  simp [onPagingControlPortWrite_locked c port v p locked, gated]

/-- With the lock clear, a port that is not primary takes the secondary write (R100). -/
theorem onPagingControlPortWrite_unlocked_secondary (c : Params) (port : Port) (v : Byte) (p : PagingState)
    (unlocked : p.pagingPermanentlyDisabled = false) (notPrimary : primaryPaging c port = false) :
    onPagingControlPortWrite c port v p = secondaryWrite v p := by
  simp [onPagingControlPortWrite, unlocked, notPrimary]

/-- What a secondary write leaves in each field, in both modes at once (R102 to R104). -/
theorem secondaryWrite_fields (v : Byte) (p : PagingState) :
    (secondaryWrite v p).diskMotorOn = motorField v ∧
      (secondaryWrite v p).printerStrobe = printerField v ∧
      (secondaryWrite v p).specialPagingMode = specialField v ∧
      (secondaryWrite v p).romHigh = (if specialField v then p.romHigh else romHighField v) ∧
      (secondaryWrite v p).pagingConfiguration =
        (if specialField v then configurationField v else p.pagingConfiguration) ∧
      (secondaryWrite v p).ramBank = p.ramBank ∧
      (secondaryWrite v p).romLow = p.romLow ∧
      (secondaryWrite v p).shadowScreenSelected = p.shadowScreenSelected ∧
      (secondaryWrite v p).pagingPermanentlyDisabled = p.pagingPermanentlyDisabled := by
  cases mode : specialField v
  · rw [secondaryWrite_normal v p mode]
    exact ⟨rfl, rfl, rfl, rfl, rfl, rfl, rfl, rfl, rfl⟩
  · rw [secondaryWrite_special v p mode]
    exact ⟨rfl, rfl, rfl, rfl, rfl, rfl, rfl, rfl, rfl⟩

/-- The ROM bank shown in normal mode (R107). -/
theorem romPageIndexValue_normal (s : State) (normal : s.paging.specialPagingMode = false) :
    romPageIndexValue s = romBank s.paging := by
  simp [romPageIndexValue, normal]

/-- The ROM high bit of a secondary write is bit 2 of the byte, as a number (R67). -/
theorem romHighField_toNat (v : Byte) : (romHighField v).toNat = (v.getLsbD 2).toNat := by
  have one_bit : romHighField v = BitVec.ofBool (v.getLsbD 2) := by
    apply BitVec.eq_of_getLsbD_eq
    intro i hi
    obtain rfl : i = 0 := by omega
    simp [romHighField]
  rw [one_bit, BitVec.toNat_ofBool]

end Sys2Proof.Machine

open Sys2Proof Sys2Proof.Machine

/-- Settles O24: both gates are closed, so the record update puts PagingState back as it was. -/
theorem lockedPagingWriteIsIgnored : Obligations.LockedPagingWriteIsIgnored := by
  unfold Obligations.LockedPagingWriteIsIgnored
  intro port v s locked
  rw [exec_outPagePri, gatedPrimaryWrite_locked v _ locked, exec_outPageSec,
    gatedSecondaryWrite_locked hardware v _ locked rfl]
  exact ⟨rfl, rfl⟩

/-- Settles O25: the entry point under the lock, then its two branches with the lock clear, then the two classes, whose
gated writes are the entry point on their ports. -/
theorem pagingEntryPointUnderTheLock : Obligations.PagingEntryPointUnderTheLock := by
  unfold Obligations.PagingEntryPointUnderTheLock
  intro c port v p
  refine ⟨onPagingControlPortWrite_locked c port v p, fun unlocked primary => ?_, fun unlocked notPrimary => ?_,
    fun s primary => ?_, fun s notPrimary secondary => ?_⟩
  · rw [onPagingControlPortWrite_primary c port v p primary, gatedPrimaryWrite_unlocked v p unlocked]
    rfl
  · rw [onPagingControlPortWrite_unlocked_secondary c port v p unlocked notPrimary, ← unlocked]
    exact secondaryWrite_fields v p
  · rw [execFor_outPagePri, onPagingControlPortWrite_primary c port v _ primary]
  · rw [execFor_outPageSec, onPagingControlPortWrite_secondary c port v _ notPrimary secondary]

/-- Settles O32: the lock stays clear through both writes, the special one leaves the ROM bits alone and the normal one
the configuration. -/
theorem specialModeRoundTrip : Obligations.SpecialModeRoundTrip := by
  unfold Obligations.SpecialModeRoundTrip
  intro port1 port2 v1 v2 s unlocked special normal
  obtain ⟨t, run1, paging1⟩ : ∃ t, exec (.outPageSec port1 v1) s = .next t ∧ t.paging = secondaryWrite v1 s.paging :=
    ⟨_, exec_outPageSec port1 v1 s, gatedSecondaryWrite_unlocked hardware v1 _ unlocked⟩
  have unlocked1 : t.paging.pagingPermanentlyDisabled = false := by rw [paging1, secondaryWrite_lock, unlocked]
  obtain ⟨u, run2, paging2⟩ : ∃ u, exec (.outPageSec port2 v2) t = .next u ∧ u.paging = secondaryWrite v2 t.paging :=
    ⟨_, exec_outPageSec port2 v2 t, gatedSecondaryWrite_unlocked hardware v2 _ unlocked1⟩
  rw [secondaryWrite_special v1 _ special] at paging1
  rw [secondaryWrite_normal v2 _ normal, paging1] at paging2
  refine ⟨t, u, run1, run2, ?_⟩
  rw [romPageIndexValue_normal u (by rw [paging2]), romBank_toNat, paging1, paging2, romHighField_toNat]
  refine ⟨rfl, rfl, rfl, rfl, rfl, rfl, rfl, fun same => ?_⟩
  exact congrArg (· ++ s.paging.romLow) same
end

section
/-!
The ULA and sound writes, the frame of every write and the round trip through the sound registers (spec
43_port_write.md R140 to R150): obligations O34, O36, O37, O38 and O41.
-/

namespace Sys2Proof.Machine

/-- `OUT_ULA` in any build writes the latch, flushes first on a colour change, and always gives the buzzer level (R143
to R145). -/
theorem execFor_outUla (c : Params) (port : Port) (v : Byte) (s : State) :
    execFor c (.outUla port v) s = .next { s with
      lastUlaOut := v
      reply := .none
      events := if borderField v = latchedBorder s
        then [.notify port, .buzzer (earField v)]
        else [.notify port, .flushBorderBuffer s.inputs.frameCycle, .buzzer (earField v)] } := by
  change Host.Outcome.next (ulaWrite v (beginWrite port s)) = _
  have latched : latchedBorder (beginWrite port s) = latchedBorder s := rfl
  rw [ulaWrite_eq, latched]
  split_ifs <;> rfl

/-- `OUT_SND_SEL` in any build writes the index and gives it and the build's penalty (R146, R148). -/
theorem execFor_outSndSel (c : Params) (port : Port) (v : Byte) (s : State) :
    execFor c (.outSndSel port v) s = .next { s with
      soundSel := soundIndexField v
      reply := .none
      events := [.notify port, .soundSelect (soundIndexField v), .cyclePenalty c.sndPenalty] } := by
  change Host.Outcome.next (soundSelectWrite c v (beginWrite port s)) = _
  rw [soundSelectWrite_eq]
  rfl

/-- `OUT_SND_DAT` in any build writes the selected register and gives the write and the build's penalty (R147, R148). -/
theorem execFor_outSndDat (c : Params) (port : Port) (v : Byte) (s : State) :
    execFor c (.outSndDat port v) s = .next { s with
      soundReg := s.soundReg.set s.soundSel.toNat v s.soundSel.isLt
      reply := .none
      events := [.notify port, .soundWrite s.soundSel v, .cyclePenalty c.sndPenalty] } := by
  change Host.Outcome.next (soundDataWrite c v (beginWrite port s)) = _
  rw [soundDataWrite_eq]
  rfl

/-- `OUT_ABSORBED` in any build only starts the access (R141, R149). -/
theorem execFor_outAbsorbed (c : Params) (port : Port) (v : Byte) (s : State) :
    execFor c (.outAbsorbed port v) s = .next { s with reply := .none, events := [.notify port] } := rfl

/-- A register keeps what was written to it through a write to another (R25). -/
theorem getElem_set_set_other (regs : Vector Byte 16) {a b k : BitVec 4} (v w : Byte) (differ : a ≠ b) (same : k = a) :
    ((regs.set a.toNat v a.isLt).set b.toNat w b.isLt)[k.toNat]'k.isLt = v := by
  subst same
  have index_ne : b.toNat ≠ k.toNat := fun eq => differ (BitVec.eq_of_toNat_eq eq.symm)
  rw [Vector.getElem_set_ne _ _ index_ne, Vector.getElem_set_self]

/-- An even port that is on no paging port takes the ULA write (R65). -/
theorem decodeWrite_ula (c : Params) (port : Port) (data : Byte) (noPaging : pagingPort c port = false)
    (even : isEven port = true) : decodeWrite c port data = .outUla port data := by
  obtain ⟨noPrimary, noSecondary⟩ := (pagingPort_eq_false_iff c port).mp noPaging
  simp [decodeWrite, noPrimary, noSecondary, even]

/-- An odd port on the select pattern and on no paging port takes the sound select (R65). -/
theorem decodeWrite_sndSel (c : Params) (port : Port) (data : Byte) (noPaging : pagingPort c port = false)
    (odd : isEven port = false) (select : soundSelect c port = true) :
    decodeWrite c port data = .outSndSel port data := by
  obtain ⟨noPrimary, noSecondary⟩ := (pagingPort_eq_false_iff c port).mp noPaging
  simp [decodeWrite, noPrimary, noSecondary, odd, select]

/-- An odd port on the data pattern and on no pattern before it takes the sound write (R65). -/
theorem decodeWrite_sndDat (c : Params) (port : Port) (v : Byte) (noPaging : pagingPort c port = false)
    (odd : isEven port = false) (noSelect : soundSelect c port = false) (data : soundData c port = true) :
    decodeWrite c port v = .outSndDat port v := by
  obtain ⟨noPrimary, noSecondary⟩ := (pagingPort_eq_false_iff c port).mp noPaging
  simp [decodeWrite, noPrimary, noSecondary, odd, noSelect, data]

/-- Under the default masks a port with bit 15 set is on no paging port (R84, R85). -/
theorem pagingPort_hardware_of_bit15 (port : Port) (bit15 : port.getLsbD 15 = true) :
    pagingPort hardware port = false := by
  rw [pagingPort, primaryPaging_hardware, secondaryPaging_hardware, bit15]
  rfl

/-- Under the default masks a port on a sound pattern has bit 15 set (R87 to R89). -/
theorem bit15_of_soundActivation_hardware (port : Port) (sound : soundActivation hardware port = true) :
    port.getLsbD 15 = true := by
  rw [soundActivation_hardware, Bool.and_eq_true] at sound
  exact sound.1

/-- Under the default masks an odd port on the select pattern takes the sound select (R65). -/
theorem decodeWrite_hardware_sndSel (port : Port) (data : Byte) (odd : isEven port = false)
    (select : soundSelect hardware port = true) : decodeWrite hardware port data = .outSndSel port data :=
  have sound : soundActivation hardware port = true := by rw [soundActivation, select, Bool.true_or]
  decodeWrite_sndSel hardware port data
    (pagingPort_hardware_of_bit15 port (bit15_of_soundActivation_hardware port sound)) odd select

/-- Under the default masks an odd port on the data pattern takes the sound write (R65). -/
theorem decodeWrite_hardware_sndDat (port : Port) (v : Byte) (odd : isEven port = false)
    (data : soundData hardware port = true) : decodeWrite hardware port v = .outSndDat port v :=
  have sound : soundActivation hardware port = true := by rw [soundActivation, data, Bool.or_true]
  have noSelect : soundSelect hardware port = false :=
    Bool.eq_false_iff.mpr fun select => sound_hardware_disjoint port ⟨select, data⟩
  decodeWrite_sndDat hardware port v
    (pagingPort_hardware_of_bit15 port (bit15_of_soundActivation_hardware port sound)) odd noSelect data

end Sys2Proof.Machine

open Sys2Proof Sys2Proof.Machine

/-- Settles O34: the border fields are the bits of D10 by definition, and a port off the paging ports with bit 0 clear
is the ULA's. -/
theorem ulaWriteResult : Obligations.UlaWriteResult := by
  unfold Obligations.UlaWriteResult
  refine ⟨fun port v s => ?_, fun w kind bit0 noPaging => ?_⟩
  · rw [← execFor_hardware]
    exact execFor_outUla hardware port v s
  · have even : isEven (portOf w) = true := by rw [isEven_portOf, bit0, Bool.not_false]
    rw [decode_write hardware w kind]
    exact decodeWrite_ula hardware _ _ noPaging even

/-- Settles O36: the default build is the one whose penalty is 3; a port on the select pattern is on no paging port. -/
theorem soundSelectResult : Obligations.SoundSelectResult := by
  unfold Obligations.SoundSelectResult
  refine ⟨fun port v s => ?_, execFor_outSndSel, fun w kind bit0 select => ?_⟩
  · rw [← execFor_hardware]
    exact execFor_outSndSel hardware port v s
  · have odd : isEven (portOf w) = false := by rw [isEven_portOf, bit0, Bool.not_true]
    rw [decode_write hardware w kind]
    exact decodeWrite_hardware_sndSel _ _ odd select

/-- Settles O37: the new file is the old one set at the index; a port on the data pattern is on no pattern before it. -/
theorem soundDataResult : Obligations.SoundDataResult := by
  unfold Obligations.SoundDataResult
  refine ⟨fun c port v s => ⟨s.soundReg.set s.soundSel.toNat v s.soundSel.isLt, ?_, execFor_outSndDat c port v s,
    fun i => ?_⟩, fun w kind bit0 data => ?_⟩
  · rw [← execFor_hardware]
    exact execFor_outSndDat hardware port v s
  · simp [Vector.getElem_set, eq_comm]
  · have odd : isEven (portOf w) = false := by rw [isEven_portOf, bit0, Bool.not_true]
    rw [decode_write hardware w kind]
    exact decodeWrite_hardware_sndDat _ _ odd data

/-- Settles O41: one case for each write class, whose equation shows the only field it writes. -/
theorem writeFrame : Obligations.WriteFrame := by
  unfold Obligations.WriteFrame
  intro i s kind
  rw [← execFor_hardware]
  cases i
  case outPagePri port v =>
    exact ⟨_, execFor_outPagePri hardware port v s, rfl, rfl, rfl, rfl, rfl, rfl, .inr ⟨port, v, .inl rfl⟩, .inl rfl,
      .inl rfl, .inl rfl⟩
  case outPageSec port v =>
    exact ⟨_, execFor_outPageSec hardware port v s, rfl, rfl, rfl, rfl, rfl, rfl, .inr ⟨port, v, .inr rfl⟩, .inl rfl,
      .inl rfl, .inl rfl⟩
  case outUla port v =>
    refine ⟨_, execFor_outUla hardware port v s, rfl, ?_, rfl, rfl, rfl, rfl, .inl rfl, .inr ⟨port, v, rfl⟩, .inl rfl,
      .inl rfl⟩
    split <;> rfl
  case outSndSel port v =>
    exact ⟨_, execFor_outSndSel hardware port v s, rfl, rfl, rfl, rfl, rfl, rfl, .inl rfl, .inl rfl,
      .inr ⟨port, v, rfl⟩, .inl rfl⟩
  case outSndDat port v =>
    exact ⟨_, execFor_outSndDat hardware port v s, rfl, rfl, rfl, rfl, rfl, rfl, .inl rfl, .inl rfl, .inl rfl,
      .inr ⟨port, v, rfl⟩⟩
  case outAbsorbed port v =>
    exact ⟨_, execFor_outAbsorbed hardware port v s, rfl, rfl, rfl, rfl, rfl, rfl, .inl rfl, .inl rfl, .inl rfl,
      .inl rfl⟩
  all_goals simp [Instr.kind] at kind

/-- Settles O38: the file holds `v` in the first register and `w` in another when the first is selected again, and both
read classes return the selected register. -/
theorem soundRegisterRoundTrip : Obligations.SoundRegisterRoundTrip := by
  unfold Obligations.SoundRegisterRoundTrip
  intro p1 p2 p3 p4 p5 p6 i v j w k s differ same
  simp only [← execFor_hardware]
  have byte_back : ((s.soundReg.set (soundIndexField i).toNat v (soundIndexField i).isLt).set
      (soundIndexField j).toNat w (soundIndexField j).isLt)[(soundIndexField k).toNat]'(soundIndexField k).isLt = v :=
    getElem_set_set_other s.soundReg v w differ same
  exact ⟨_, _, _, _, _, _, _, execFor_outSndSel hardware p1 i s, execFor_outSndDat hardware p2 v _,
    execFor_outSndSel hardware p3 j _, execFor_outSndDat hardware p4 w _, execFor_outSndSel hardware p5 k _,
    execFor_inSoundA hardware p6 _, congrArg Reply.byte byte_back,
    (execFor_inSoundB hardware p6 _).trans (execFor_inSoundA hardware p6 _), congrArg Reply.byte byte_back⟩
end

section
/-!
The two resets (spec 70_reset_and_hazards.md R180 to R182): obligations O42, O43 and O45.
-/

namespace Sys2Proof.Machine

/-- `RESET_POWERON` in any build is the power-on reset (R180). -/
theorem execFor_resetPoweron (c : Params) (s : State) : execFor c .resetPoweron s = .next (powerOnReset s) := rfl

/-- `RESET_SOFT` in any build is the soft reset (R181). -/
theorem execFor_resetSoft (c : Params) (s : State) : execFor c .resetSoft s = .next (softReset s) := rfl

/-- With nothing queued and the lines at rest, a power-on reset gives the reset state (R180). -/
theorem powerOnReset_reset : powerOnReset State.reset = State.reset := rfl

end Sys2Proof.Machine

open Sys2Proof Sys2Proof.Machine

/-- Settles O42: the reset state's fields, with the environment's two kept. -/
theorem powerOnResetResult : Obligations.PowerOnResetResult := by
  unfold Obligations.PowerOnResetResult
  intro s
  rw [← execFor_hardware]
  exact execFor_resetPoweron hardware s

/-- Settles O43: the soft reset is the power-on reset with two fields kept. -/
theorem softResetResult : Obligations.SoftResetResult := by
  unfold Obligations.SoftResetResult
  intro s
  rw [← execFor_hardware, ← execFor_hardware]
  exact ⟨powerOnReset s, execFor_resetPoweron hardware s, execFor_resetSoft hardware s⟩

/-- Settles O45: a power-on reset gives the reset state back, whose fields are read off. -/
theorem resetStateIsPowerOnState : Obligations.ResetStateIsPowerOnState := by
  unfold Obligations.ResetStateIsPowerOnState
  refine ⟨?_, by decide⟩
  rw [← execFor_hardware, execFor_resetPoweron, powerOnReset_reset]
end

section
/-!
The other accessors and the memory layout (spec 41_paging.md R107, R109 to R111): obligations O30, O31 and O33.
-/

namespace Sys2Proof.Machine

/-- The accessors of D20 only set the reply, each to its field in either mode (R109, R110). -/
theorem ask_mode_and_aux (s : State) :
    ask .isSpecialPagingMode s = setReply (.flag s.paging.specialPagingMode) s ∧
      ask .currentPagingConfiguration s = setReply (.configuration s.paging.pagingConfiguration) s ∧
      ask .diskMotorOn s = setReply (.flag s.paging.diskMotorOn) s ∧
      ask .printerStrobe s = setReply (.flag s.paging.printerStrobe) s :=
  ⟨rfl, rfl, rfl, rfl⟩

/-- In normal mode `CurrentRomPageIndex()` only answers with the ROM bank (R107). -/
theorem ask_currentRomPageIndex_normal (s : State) (normal : s.paging.specialPagingMode = false) :
    ask .currentRomPageIndex s = setReply (.romPage (romBank s.paging)) s := by
  simp [ask, currentRomPageIndex, romPageIndexValue, normal]

/-- In special mode `CurrentRomPageIndex()` answers 0 and raises the fault mark (R107, D16). -/
theorem ask_currentRomPageIndex_special (s : State) (special : s.paging.specialPagingMode = true) :
    ask .currentRomPageIndex s = setReply (.romPage 0) (raiseRomIndexFault s) := by
  simp [ask, currentRomPageIndex, romPageIndexValue, special]

end Sys2Proof.Machine

open Sys2Proof Sys2Proof.Machine

/-- Settles O30: each step takes the host call off the queue, and the accessor only sets the reply. -/
theorem modeAndAuxAccessors : Obligations.ModeAndAuxAccessors := by
  unfold Obligations.ModeAndAuxAccessors
  intro s rest
  obtain ⟨mode, configuration, motor, strobe⟩ := ask_mode_and_aux (beginSilent (dequeue rest s))
  refine ⟨fun oldest => ?_, fun oldest => ?_, fun oldest => ?_, fun oldest => ?_⟩ <;>
    rw [step_host s _ rest oldest, hostCall]
  · exact congrArg Host.Outcome.next mode
  · exact congrArg Host.Outcome.next configuration
  · exact congrArg Host.Outcome.next motor
  · exact congrArg Host.Outcome.next strobe

/-- Settles O31, by the two modes. -/
theorem romPageIndexAccessor : Obligations.RomPageIndexAccessor := by
  unfold Obligations.RomPageIndexAccessor
  intro s rest oldest
  rw [step_host s _ rest oldest, hostCall]
  refine ⟨fun normal => ⟨romBank s.paging, romBank_toNat s.paging, ?_⟩, fun special => ?_⟩
  · exact congrArg Host.Outcome.next (ask_currentRomPageIndex_normal (beginSilent (dequeue rest s)) normal)
  · exact congrArg Host.Outcome.next (ask_currentRomPageIndex_special (beginSilent (dequeue rest s)) special)

/-- Settles O33: the layout asks for the mode first, so in normal mode the ROM index is the bank. -/
theorem memoryLayoutResolution : Obligations.MemoryLayoutResolution := by
  unfold Obligations.MemoryLayoutResolution
  intro c s
  refine ⟨fun special => if_pos special, fun normal => ?_⟩
  rw [memoryLayout, isSpecialPagingMode, if_neg (ne_true_of_eq_false normal), romPageIndexValue_normal s normal]
  rfl
end

section
/-!
The snapshot (spec 44_host.md R160 to R162): obligations O47 and O48.
-/

namespace Sys2Proof.Machine

/-- A number that fits one bit is kept by the flag made of it. -/
theorem toNat_beq_one {n : Nat} (fits : n ≤ 1) : (n == 1).toNat = n := by
  obtain rfl | rfl : n = 0 ∨ n = 1 := by omega
  · rfl
  · rfl

/-- A flag is kept by the number made of it. -/
theorem beq_one_toNat (b : Bool) : (b.toNat == 1) = b := by
  cases b <;> rfl

/-- A record that fits is kept, field by field, by the state a restore writes (R161). -/
theorem restored_toNat (r : SnapshotRecord) (fits : recordFits r = true) :
    (pagingOf r).ramBank.toNat = r.ramBank ∧ (pagingOf r).romLow.toNat = r.romLow ∧
      (pagingOf r).romHigh.toNat = r.romHigh ∧
      (pagingOf r).shadowScreenSelected.toNat = r.shadowScreenSelected ∧
      (pagingOf r).pagingPermanentlyDisabled.toNat = r.pagingPermanentlyDisabled ∧
      (pagingOf r).specialPagingMode.toNat = r.specialPagingMode ∧
      (pagingOf r).pagingConfiguration.toNat = r.pagingConfiguration ∧
      (pagingOf r).diskMotorOn.toNat = r.diskMotorOn ∧ (pagingOf r).printerStrobe.toNat = r.printerStrobe ∧
      (BitVec.ofNat 8 r.lastUlaOutByte).toNat = r.lastUlaOutByte := by
  obtain ⟨ram, low, high, shadow, lock, mode, configuration, motor, strobe, latch⟩ := (recordFits_iff r).mp fits
  refine ⟨?_, ?_, ?_, toNat_beq_one shadow, toNat_beq_one lock, toNat_beq_one mode, ?_, toNat_beq_one motor,
    toNat_beq_one strobe, ?_⟩ <;> exact Nat.mod_eq_of_lt (by omega)

/-- The snapshot after a restore that fits is the record (R162). -/
theorem snapshotOf_snapshotSet (r : SnapshotRecord) (s : State) (fits : recordFits r = true) :
    snapshotOf (snapshotSet r s) = r := by
  obtain ⟨ram, low, high, shadow, lock, mode, configuration, motor, strobe, latch⟩ := restored_toNat r fits
  rw [snapshotSet_fits r s fits]
  simp only [snapshotOf, setLastUlaOut_paging, setPaging_paging, setLastUlaOut_lastUlaOut, ram, low, high, shadow, lock,
    mode, configuration, motor, strobe, latch]

/-- A state's own snapshot describes its PagingState (R160, R161). -/
theorem pagingOf_snapshotOf (s : State) : pagingOf (snapshotOf s) = s.paging := by
  simp only [pagingOf, snapshotOf, BitVec.ofNat_toNat, BitVec.setWidth_eq, beq_one_toNat]

/-- Restoring a state's snapshot brings back its PagingState and its latch, and nothing else (R162). -/
theorem snapshotSet_snapshotOf (s u : State) :
    snapshotSet (snapshotOf s) u = { u with paging := s.paging, lastUlaOut := s.lastUlaOut } := by
  have latch : BitVec.ofNat 8 (snapshotOf s).lastUlaOutByte = s.lastUlaOut := by
    rw [snapshotOf, BitVec.ofNat_toNat, BitVec.setWidth_eq]
  rw [snapshotSet_fits _ u (recordFits_snapshotOf s), pagingOf_snapshotOf, latch]
  rfl

end Sys2Proof.Machine

open Sys2Proof Sys2Proof.Machine

/-- Settles O47: the record fits or it does not, and each case has its equation. -/
theorem snapshotSetResult : Obligations.SnapshotSetResult := by
  unfold Obligations.SnapshotSetResult
  intro s r rest oldest
  rw [step_host s _ rest oldest, hostCall, ← recordFits_iff]
  refine ⟨fun fits => ?_, fun outOfWidth => ?_⟩
  · rw [snapshotSet_fits r _ fits]
    exact ⟨pagingOf r, BitVec.ofNat 8 r.lastUlaOutByte, rfl, restored_toNat r fits⟩
  · rw [snapshotSet_refused r _ (Bool.eq_false_iff.mpr outOfWidth)]
    rfl

/-- Settles O48: the first clause is the third with one state for both. -/
theorem snapshotRoundTrip : Obligations.SnapshotRoundTrip := by
  unfold Obligations.SnapshotRoundTrip
  exact ⟨fun s => snapshotSet_snapshotOf s s, snapshotOf_snapshotSet, snapshotSet_snapshotOf⟩
end

section
/-!
What a step can do, said once: a transaction's class runs `ReadPort`, `WritePort` or a reset (spec 42_port_read.md R120,
43_port_write.md R140), and a step is one of six cases. Obligations O49, O50, O51, O52, O53 and O60.
-/

namespace Sys2Proof.Machine

/-! ## The decoded class runs the port entry points -/

/-- The decoded read class of a port runs `ReadPort` on it (R120). -/
theorem execFor_decodeRead (c : Params) (port : Port) (s : State) :
    execFor c (decodeRead c port) s = .next (readPort c port s) := by
  unfold decodeRead readPort readPortValue
  split_ifs <;> rfl

/-- The decoded write class of a port runs `WritePort` on it (R140). On the paging ports this is the entry point of
R100, which the two paging classes cut in two. -/
theorem execFor_decodeWrite (c : Params) (port : Port) (v : Byte) (s : State) :
    execFor c (decodeWrite c port v) s = .next (writePort c port v s) := by
  unfold decodeWrite writePort pagingPort
  cases primary : primaryPaging c port
  · cases secondary : secondaryPaging c port
    · simp only [Bool.or_false, Bool.false_eq_true, if_false]
      split_ifs <;> rfl
    · simp only [Bool.or_true, Bool.false_eq_true, if_false, if_true,
        onPagingControlPortWrite_secondary c port v _ primary secondary]
      rfl
  · simp only [Bool.true_or, if_true, onPagingControlPortWrite_primary c port v _ primary]
    rfl

/-- A read word runs `ReadPort` on its port. -/
theorem execFor_decode_read (c : Params) (w : TxWord) (s : State) (kind : kindOf w = 0b00#2) :
    execFor c (decode c w) s = .next (readPort c (portOf w) s) := by
  rw [decode_read c w kind, execFor_decodeRead]

/-- A write word runs `WritePort` on its port and byte. -/
theorem execFor_decode_write (c : Params) (w : TxWord) (s : State) (kind : kindOf w = 0b01#2) :
    execFor c (decode c w) s = .next (writePort c (portOf w) (dataOf w) s) := by
  rw [decode_write c w kind, execFor_decodeWrite]

/-- A power-on word runs the power-on reset. -/
theorem execFor_decode_powerOn (c : Params) (w : TxWord) (s : State) (kind : kindOf w = 0b10#2) :
    execFor c (decode c w) s = .next (powerOnReset s) := by
  rw [decode_powerOn c w kind, execFor_resetPoweron]

/-- A soft reset word runs the soft reset. -/
theorem execFor_decode_soft (c : Params) (w : TxWord) (s : State) (kind : kindOf w = 0b11#2) :
    execFor c (decode c w) s = .next (softReset s) := by
  rw [decode_soft c w kind, execFor_resetSoft]

/-! ## The cases of a step -/

/-- What a step of the build with parameters `c` makes of `s`: it idles, runs one of the four kinds of transaction, or
does a host call. `exists_stepCase` ties it to `stepFor`. -/
inductive StepCase (c : Params) (s : State) : State → Prop
  | idle (nothing : s.pending = []) : StepCase c s (beginSilent s)
  | read (w : TxWord) (inputs : Inputs) (rest : List Request) (oldest : s.pending = .transaction w inputs :: rest)
      (kind : kindOf w = 0b00#2) : StepCase c s (readPort c (portOf w) (accept inputs rest s))
  | write (w : TxWord) (inputs : Inputs) (rest : List Request) (oldest : s.pending = .transaction w inputs :: rest)
      (kind : kindOf w = 0b01#2) : StepCase c s (writePort c (portOf w) (dataOf w) (accept inputs rest s))
  | powerOn (w : TxWord) (inputs : Inputs) (rest : List Request) (oldest : s.pending = .transaction w inputs :: rest)
      (kind : kindOf w = 0b10#2) : StepCase c s (powerOnReset (accept inputs rest s))
  | soft (w : TxWord) (inputs : Inputs) (rest : List Request) (oldest : s.pending = .transaction w inputs :: rest)
      (kind : kindOf w = 0b11#2) : StepCase c s (softReset (accept inputs rest s))
  | host (call : HostCall) (rest : List Request) (oldest : s.pending = .host call :: rest) :
      StepCase c s (hostCall call (dequeue rest s))

/-- Every step answers a next state, and by one of the six cases. -/
theorem exists_stepCase (c : Params) (s : State) : ∃ t, stepFor c s = .next t ∧ StepCase c s t := by
  match oldest : s.pending with
  | [] => exact ⟨_, stepFor_idle c s oldest, .idle oldest⟩
  | .host call :: rest => exact ⟨_, stepFor_host c s call rest oldest, .host call rest oldest⟩
  | .transaction w inputs :: rest =>
    rw [stepFor_transaction c s w inputs rest oldest]
    rcases kind_cases (kindOf w) with kind | kind | kind | kind
    · exact ⟨_, execFor_decode_read c w _ kind, .read w inputs rest oldest kind⟩
    · exact ⟨_, execFor_decode_write c w _ kind, .write w inputs rest oldest kind⟩
    · exact ⟨_, execFor_decode_powerOn c w _ kind, .powerOn w inputs rest oldest kind⟩
    · exact ⟨_, execFor_decode_soft c w _ kind, .soft w inputs rest oldest kind⟩

/-- A step that answers `t` is one of the six cases. -/
theorem stepCase_of_stepFor {c : Params} {s t : State} (run : stepFor c s = .next t) : StepCase c s t := by
  obtain ⟨t', run', by_case⟩ := exists_stepCase c s
  obtain rfl : t = t' := Host.Outcome.next.inj (run.symm.trans run')
  exact by_case

/-- The same of the default build. -/
theorem stepCase_of_step {s t : State} (run : step s = .next t) : StepCase hardware s t :=
  stepCase_of_stepFor ((stepFor_hardware s).trans run)

/-- A step of the default build that takes a transaction (R6). -/
theorem step_transaction (s : State) (w : TxWord) (inputs : Inputs) (rest : List Request)
    (oldest : s.pending = .transaction w inputs :: rest) :
    step s = exec (decode hardware w) (accept inputs rest s) := by
  rw [← stepFor_hardware, stepFor_transaction hardware s w inputs rest oldest, execFor_hardware]

/-! ## What `WritePort` and the host calls leave alone -/

/-- `WritePort` leaves the flag, the fault mark, the inputs and the queue alone, and returns nothing (R141, R150). -/
theorem writePort_frame (c : Params) (port : Port) (v : Byte) (s : State) :
    (writePort c port v s).inputRead = s.inputRead ∧ (writePort c port v s).reply = .none ∧
      (writePort c port v s).romIndexInSpecialMode = s.romIndexInSpecialMode ∧
      (writePort c port v s).inputs = s.inputs ∧ (writePort c port v s).pending = s.pending := by
  unfold writePort
  split_ifs <;> simp [ulaWrite_eq, soundSelectWrite_eq, soundDataWrite_eq]

/-- `WritePort` changes PagingState by the entry point of R100 on a paging port, and nowhere else (R142). -/
theorem writePort_paging (c : Params) (port : Port) (v : Byte) (s : State) :
    (writePort c port v s).paging =
      if pagingPort c port then onPagingControlPortWrite c port v s.paging else s.paging := by
  unfold writePort
  split_ifs <;> simp [ulaWrite_eq, soundSelectWrite_eq, soundDataWrite_eq]

/-- A restore leaves the sound file, the fault mark, the inputs, the events and the queue alone (R161). -/
theorem snapshotSet_frame (r : SnapshotRecord) (s : State) :
    (snapshotSet r s).soundSel = s.soundSel ∧ (snapshotSet r s).soundReg = s.soundReg ∧
      (snapshotSet r s).romIndexInSpecialMode = s.romIndexInSpecialMode ∧ (snapshotSet r s).inputs = s.inputs ∧
      (snapshotSet r s).events = s.events ∧ (snapshotSet r s).pending = s.pending := by
  unfold snapshotSet
  split_ifs <;> simp

/-- A host call leaves the sound file, the inputs and the queue alone, and emits nothing (44_host.md). -/
theorem hostCall_frame (call : HostCall) (s : State) :
    (hostCall call s).soundSel = s.soundSel ∧ (hostCall call s).soundReg = s.soundReg ∧
      (hostCall call s).inputs = s.inputs ∧ (hostCall call s).events = [] ∧
      (hostCall call s).pending = s.pending := by
  cases call with
  | snapshotGet => exact ⟨rfl, rfl, rfl, rfl, rfl⟩
  | clearInputRead => exact ⟨rfl, rfl, rfl, rfl, rfl⟩
  | snapshotSet r =>
    obtain ⟨sel, reg, -, inputs, events, pending⟩ := snapshotSet_frame r (beginSilent s)
    exact ⟨sel, reg, inputs, events, pending⟩
  | ask a =>
    obtain ⟨-, -, -, sel, reg, inputs, events, pending⟩ := ask_frame a (beginSilent s)
    exact ⟨sel, reg, inputs, events, pending⟩

/-- `ClearInputRead()` clears the flag and the output of the step before (R165). -/
theorem hostCall_clearInputRead (s : State) :
    hostCall .clearInputRead s = { s with inputRead := false, reply := .none, events := [] } := rfl

/-- A step takes the oldest request alone from the queue (R6). -/
theorem StepCase.pending {c : Params} {s t : State} (by_case : StepCase c s t) : t.pending = s.pending.tail := by
  cases by_case with
  | idle nothing => rw [nothing]; exact nothing
  | read w inputs rest oldest kind => rw [oldest]; rfl
  | write w inputs rest oldest kind =>
    obtain ⟨-, -, -, -, pending⟩ := writePort_frame c (portOf w) (dataOf w) (accept inputs rest s)
    rw [oldest, pending]; rfl
  | powerOn w inputs rest oldest kind => rw [oldest]; rfl
  | soft w inputs rest oldest kind => rw [oldest]; rfl
  | host call rest oldest =>
    obtain ⟨-, -, -, -, pending⟩ := hostCall_frame call (dequeue rest s)
    rw [oldest, pending]; rfl

/-- A step of any build completes and takes the oldest request alone from the queue (R6). -/
theorem stepFor_takes_oldest (c : Params) (s : State) : ∃ t, stepFor c s = .next t ∧ t.pending = s.pending.tail := by
  obtain ⟨t, run, by_case⟩ := exists_stepCase c s
  exact ⟨t, run, by_case.pending⟩

/-- A transaction of any build completes, a read with a byte, any other with nothing (R170). -/
theorem transaction_completes (c : Params) (s : State) (w : TxWord) (inputs : Inputs) (rest : List Request)
    (oldest : s.pending = .transaction w inputs :: rest) :
    ∃ t, stepFor c s = .next t ∧ (kindOf w = 0b00#2 → ∃ v, t.reply = .byte v) ∧
      (kindOf w ≠ 0b00#2 → t.reply = .none) := by
  rw [stepFor_transaction c s w inputs rest oldest]
  rcases kind_cases (kindOf w) with kind | kind | kind | kind
  · exact ⟨_, execFor_decode_read c w _ kind, fun _ => ⟨_, rfl⟩, fun other => absurd kind other⟩
  · obtain ⟨-, reply, -⟩ := writePort_frame c (portOf w) (dataOf w) (accept inputs rest s)
    exact ⟨_, execFor_decode_write c w _ kind, fun read => by simp [kind] at read, fun _ => reply⟩
  · exact ⟨_, execFor_decode_powerOn c w _ kind, fun read => by simp [kind] at read, fun _ => rfl⟩
  · exact ⟨_, execFor_decode_soft c w _ kind, fun read => by simp [kind] at read, fun _ => rfl⟩

end Sys2Proof.Machine

open Sys2Proof Sys2Proof.Machine

/-- Settles O49: a word with bit 25 clear is a read, which sets the flag, or a write, which leaves it. -/
theorem clearInputReadAndNoAccessClears : Obligations.ClearInputReadAndNoAccessClears := by
  unfold Obligations.ClearInputReadAndNoAccessClears
  refine ⟨fun s rest oldest => ?_, fun s w inputs rest oldest bit25 flag => ?_⟩
  · rw [step_host s _ rest oldest, hostCall_clearInputRead]
    rfl
  · rw [step_transaction s w inputs rest oldest, ← execFor_hardware]
    cases bit24 : w.getLsbD 24
    · exact ⟨_, execFor_decode_read hardware w _ (kindOf_read w bit25 bit24), rfl⟩
    · obtain ⟨kept, -⟩ := writePort_frame hardware (portOf w) (dataOf w) (accept inputs rest s)
      exact ⟨_, execFor_decode_write hardware w _ (kindOf_write w bit25 bit24), kept.trans flag⟩

/-- Settles O50: taking the request and its inputs is the record update of the statement. -/
theorem stepRunsTheDecodedInstruction : Obligations.StepRunsTheDecodedInstruction := by
  unfold Obligations.StepRunsTheDecodedInstruction
  exact ⟨fun s w inputs rest oldest => ⟨step_transaction s w inputs rest oldest,
    fun c => stepFor_transaction c s w inputs rest oldest⟩, fun i s => (execFor_hardware i s).symm,
    fun s => (stepFor_hardware s).symm⟩

/-- Settles O51: the idle step only clears the output of the step before. -/
theorem idleStepChangesNothing : Obligations.IdleStepChangesNothing := by
  unfold Obligations.IdleStepChangesNothing
  intro s nothing
  rw [← stepFor_hardware, stepFor_idle hardware s nothing]
  rfl

/-- Settles O52: every step is one of the six cases, and each takes one request; the machine is the default build. -/
theorem everyTransactionCompletes : Obligations.EveryTransactionCompletes := by
  unfold Obligations.EveryTransactionCompletes
  refine ⟨fun s => ?_, stepFor_takes_oldest, fun s w inputs rest oldest => ⟨?_, fun c =>
    transaction_completes c s w inputs rest oldest⟩⟩
  · rw [← stepFor_hardware]
    exact stepFor_takes_oldest hardware s
  · rw [← stepFor_hardware]
    exact transaction_completes hardware s w inputs rest oldest

/-- Settles O53: the step runs the decoded class, and the class the entry point; the machine is the default build. -/
theorem decodedClassesRefineThePorts : Obligations.DecodedClassesRefineThePorts := by
  unfold Obligations.DecodedClassesRefineThePorts
  intro s w inputs rest oldest
  rw [← stepFor_hardware]
  have every_build := fun c : Params => stepFor_transaction c s w inputs rest oldest
  exact ⟨fun kind => (every_build hardware).trans (execFor_decode_read hardware w _ kind),
    fun kind => (every_build hardware).trans (execFor_decode_write hardware w _ kind),
    fun c => ⟨fun kind => (every_build c).trans (execFor_decode_read c w _ kind),
      fun kind => (every_build c).trans (execFor_decode_write c w _ kind)⟩⟩

/-- Settles O60: the transaction's own inputs replace the lines before its class runs. -/
theorem earlierInputsAreNotSeen : Obligations.EarlierInputsAreNotSeen := by
  unfold Obligations.EarlierInputsAreNotSeen
  intro s w inputs stale rest oldest
  rw [step_transaction s w inputs rest oldest, step_transaction { s with inputs := stale } w inputs rest oldest]
  rfl
end

section
/-!
PagingState along the queue (spec 41_paging.md R100, R105, 70_reset_and_hazards.md R182, 90_conflicts.md C10): what a
step makes of it is `pagingAfter` of the oldest request, and a PagingState that every request keeps survives any run.
Obligations O26, O27, O28, O44 and O58.
-/

namespace Sys2Proof.Machine

/-! ## `pagingAfter` by the kind of request -/

/-- A read keeps PagingState (R130). -/
theorem pagingAfter_read (c : Params) (w : TxWord) (inputs : Inputs) (p : PagingState) (kind : kindOf w = 0b00#2) :
    pagingAfter c (.transaction w inputs) p = p := by
  simp [pagingAfter, kind]

/-- A write takes the entry point on a paging port, and keeps PagingState elsewhere (R142). -/
theorem pagingAfter_write (c : Params) (w : TxWord) (inputs : Inputs) (p : PagingState) (kind : kindOf w = 0b01#2) :
    pagingAfter c (.transaction w inputs) p =
      if pagingPort c (portOf w) then onPagingControlPortWrite c (portOf w) (dataOf w) p else p := by
  simp [pagingAfter, kind]

/-- A power-on reset puts PagingState at its reset values (R180). -/
theorem pagingAfter_powerOn (c : Params) (w : TxWord) (inputs : Inputs) (p : PagingState)
    (kind : kindOf w = 0b10#2) : pagingAfter c (.transaction w inputs) p = PagingState.reset := by
  simp [pagingAfter, kind]

/-- A soft reset does too, but for the lock (R181). -/
theorem pagingAfter_soft (c : Params) (w : TxWord) (inputs : Inputs) (p : PagingState) (kind : kindOf w = 0b11#2) :
    pagingAfter c (.transaction w inputs) p =
      { PagingState.reset with pagingPermanentlyDisabled := p.pagingPermanentlyDisabled } := by
  simp [pagingAfter, kind]

/-- With the lock set and the aux bits gated, a write keeps PagingState at every port (R100, R105). -/
theorem pagingAfter_write_locked (c : Params) (gated : c.auxGated = true) (w : TxWord) (inputs : Inputs)
    (p : PagingState) (locked : p.pagingPermanentlyDisabled = true) (kind : kindOf w = 0b01#2) :
    pagingAfter c (.transaction w inputs) p = p := by
  rw [pagingAfter_write c w inputs p kind, onPagingControlPortWrite_locked_gated c _ _ p locked gated, ite_self]

/-- With the lock set and the aux bits gated, only a reset or a restore changes PagingState (R105). -/
theorem pagingAfter_locked (c : Params) (gated : c.auxGated = true) (r : Request) (p : PagingState)
    (locked : p.pagingPermanentlyDisabled = true) (harmless : changesLockedPaging r = false) :
    pagingAfter c r p = p := by
  match r with
  | .transaction w inputs =>
    have bit25 : w.getLsbD 25 = false := harmless
    cases bit24 : w.getLsbD 24
    · exact pagingAfter_read c w inputs p (kindOf_read w bit25 bit24)
    · exact pagingAfter_write_locked c gated w inputs p locked (kindOf_write w bit25 bit24)
  | .host (.snapshotSet record) => exact absurd harmless (by simp [changesLockedPaging])
  | .host .snapshotGet => rfl
  | .host .clearInputRead => rfl
  | .host (.ask _) => rfl

/-- PagingState after a soft reset with the lock set (R182). -/
def PagingState.lockedReset : PagingState :=
  { PagingState.reset with pagingPermanentlyDisabled := true }

/-- Where the aux bits are gated, the locked reset values are left only by a power-on or a restore (R182). -/
theorem pagingAfter_lockedReset (c : Params) (gated : c.auxGated = true) (r : Request) (harmless : unlocks r = false) :
    pagingAfter c r PagingState.lockedReset = PagingState.lockedReset := by
  match r with
  | .transaction w inputs =>
    have notPowerOn : kindOf w ≠ 0b10#2 := beq_eq_false_iff_ne.mp harmless
    rcases kind_cases (kindOf w) with kind | kind | kind | kind
    · exact pagingAfter_read c w inputs _ kind
    · exact pagingAfter_write_locked c gated w inputs _ rfl kind
    · exact absurd kind notPowerOn
    · exact pagingAfter_soft c w inputs _ kind
  | .host (.snapshotSet record) => exact absurd harmless (by simp [unlocks])
  | .host .snapshotGet => rfl
  | .host .clearInputRead => rfl
  | .host (.ask _) => rfl

/-- Only a write on a paging port, a reset word or a restore can change PagingState (C10). -/
theorem owner_of_pagingAfter_ne (c : Params) (r : Request) (p : PagingState) (changed : pagingAfter c r p ≠ p) :
    (∃ w inputs, r = .transaction w inputs ∧
      ((kindOf w = 0b01#2 ∧ pagingPort c (portOf w) = true) ∨ w.getLsbD 25 = true)) ∨
    ∃ record, r = .host (.snapshotSet record) := by
  match r with
  | .transaction w inputs =>
    refine .inl ⟨w, inputs, rfl, ?_⟩
    rcases kind_cases (kindOf w) with kind | kind | kind | kind
    · exact absurd (pagingAfter_read c w inputs p kind) changed
    · refine .inl ⟨kind, ?_⟩
      by_contra offPaging
      exact changed ((pagingAfter_write c w inputs p kind).trans (if_neg offPaging))
    · exact .inr (by rw [getLsbD_25_eq, kind]; rfl)
    · exact .inr (by rw [getLsbD_25_eq, kind]; rfl)
  | .host (.snapshotSet record) => exact .inr ⟨record, rfl⟩
  | .host .snapshotGet => exact absurd rfl changed
  | .host .clearInputRead => exact absurd rfl changed
  | .host (.ask _) => exact absurd rfl changed

/-! ## What a step makes of PagingState -/

/-- A host call changes PagingState by a restore that fits, and by nothing else (R161). -/
theorem hostCall_paging (c : Params) (call : HostCall) (s : State) :
    (hostCall call s).paging = pagingAfter c (.host call) s.paging := by
  cases call with
  | snapshotGet => rfl
  | clearInputRead => rfl
  | ask a => exact (ask_frame a (beginSilent s)).1
  | snapshotSet r =>
    change (snapshotSet r (beginSilent s)).paging = if recordFits r then pagingOf r else s.paging
    unfold snapshotSet
    split_ifs <;> rfl

/-- A step makes of PagingState what its request does (C10). -/
theorem StepCase.paging_cons {c : Params} {s t : State} (by_case : StepCase c s t) {r : Request} {rest : List Request}
    (queue : s.pending = r :: rest) : t.paging = pagingAfter c r s.paging := by
  cases by_case with
  | idle nothing => rw [nothing] at queue; contradiction
  | read w inputs rest' oldest kind =>
    obtain ⟨rfl, -⟩ := List.cons.inj (queue.symm.trans oldest)
    rw [pagingAfter_read c w inputs _ kind]
    rfl
  | write w inputs rest' oldest kind =>
    obtain ⟨rfl, -⟩ := List.cons.inj (queue.symm.trans oldest)
    rw [pagingAfter_write c w inputs _ kind, writePort_paging]
    rfl
  | powerOn w inputs rest' oldest kind =>
    obtain ⟨rfl, -⟩ := List.cons.inj (queue.symm.trans oldest)
    rw [pagingAfter_powerOn c w inputs _ kind]
    rfl
  | soft w inputs rest' oldest kind =>
    obtain ⟨rfl, -⟩ := List.cons.inj (queue.symm.trans oldest)
    rw [pagingAfter_soft c w inputs _ kind]
    rfl
  | host call rest' oldest =>
    obtain ⟨rfl, -⟩ := List.cons.inj (queue.symm.trans oldest)
    exact hostCall_paging c call (dequeue rest' s)

/-- A step with nothing asked keeps PagingState. -/
theorem StepCase.paging_nil {c : Params} {s t : State} (by_case : StepCase c s t) (queue : s.pending = []) :
    t.paging = s.paging := by
  cases by_case with
  | idle => rfl
  | read _ _ _ oldest | write _ _ _ oldest | powerOn _ _ _ oldest | soft _ _ _ oldest | host _ _ oldest =>
    rw [queue] at oldest
    contradiction

/-! ## A PagingState that every request keeps -/

/-- PagingState is `p` and every request asked keeps it there. -/
def PagingFixed (c : Params) (p : PagingState) (s : State) : Prop :=
  s.paging = p ∧ ∀ r ∈ s.pending, pagingAfter c r p = p

/-- Every step of the build keeps a fixed PagingState fixed. -/
theorem StepCase.keeps_pagingFixed {c : Params} {p : PagingState} {s t : State} (by_case : StepCase c s t)
    (fixed : PagingFixed c p s) : PagingFixed c p t := by
  obtain ⟨paging, kept⟩ := fixed
  refine ⟨?_, fun r asked => kept r (List.mem_of_mem_tail (by_case.pending ▸ asked))⟩
  match queue : s.pending with
  | [] => rw [by_case.paging_nil queue, paging]
  | r :: rest => rw [by_case.paging_cons queue, paging, kept r (by rw [queue]; exact List.mem_cons_self)]

/-- A run takes its first step, then the others. -/
theorem run_succ (n : Nat) {s t : State} (first : step s = .next t) : core.run (n + 1) s = core.run n t := by
  have first' : core.step s = .next t := first
  simp only [Host.Core.run, first']

/-- Any number of steps runs from a fixed PagingState and keeps it. -/
theorem run_keeps_pagingFixed (n : Nat) (p : PagingState) (s : State) (fixed : PagingFixed hardware p s) :
    ∃ t, core.run n s = .next t ∧ t.paging = p := by
  induction n generalizing s with
  | zero => exact ⟨s, rfl, fixed.1⟩
  | succ n ih =>
    obtain ⟨t, first, by_case⟩ := exists_stepCase hardware s
    rw [run_succ n ((stepFor_hardware s).symm.trans first)]
    exact ih t (by_case.keeps_pagingFixed fixed)

/-- What it means that paging is frozen (R105). -/
theorem frozen_iff (p : PagingState) (s : State) :
    frozen p s = true ↔
      s.paging = p ∧ p.pagingPermanentlyDisabled = true ∧ ∀ r ∈ s.pending, changesLockedPaging r = false := by
  simp only [frozen, Bool.and_eq_true, decide_eq_true_eq, List.all_eq_true, Bool.not_eq_true', and_assoc]

/-- Frozen paging is fixed in a build that gates the aux bits (R105). -/
theorem pagingFixed_of_frozen (c : Params) (gated : c.auxGated = true) (p : PagingState) (s : State)
    (isFrozen : frozen p s = true) : PagingFixed c p s := by
  obtain ⟨paging, locked, harmless⟩ := (frozen_iff p s).mp isFrozen
  exact ⟨paging, fun r asked => pagingAfter_locked c gated r p locked (harmless r asked)⟩

/-- A step of a build that gates the aux bits keeps paging frozen (R105). -/
theorem StepCase.keeps_frozen {c : Params} (gated : c.auxGated = true) {p : PagingState} {s t : State}
    (by_case : StepCase c s t) (isFrozen : frozen p s = true) : frozen p t = true := by
  obtain ⟨-, locked, harmless⟩ := (frozen_iff p s).mp isFrozen
  obtain ⟨paging, -⟩ := by_case.keeps_pagingFixed (pagingFixed_of_frozen c gated p s isFrozen)
  exact (frozen_iff p t).mpr
    ⟨paging, locked, fun r asked => harmless r (List.mem_of_mem_tail (by_case.pending ▸ asked))⟩

end Sys2Proof.Machine

open Sys2Proof Sys2Proof.Machine

/-- Settles O26: the transaction makes `pagingAfter` of PagingState; a write keeps all of it under the lock, a soft
reset the lock. -/
theorem lockIsOneWay : Obligations.LockIsOneWay := by
  unfold Obligations.LockIsOneWay
  intro s t w inputs rest oldest locked run
  rw [(stepCase_of_step run).paging_cons oldest]
  have write_keeps := pagingAfter_write_locked hardware rfl w inputs s.paging locked
  refine ⟨fun notPowerOn => ?_, write_keeps⟩
  rcases kind_cases (kindOf w) with kind | kind | kind | kind
  · rw [pagingAfter_read hardware w inputs _ kind, locked]
  · rw [write_keeps kind, locked]
  · exact absurd kind notPowerOn
  · rw [pagingAfter_soft hardware w inputs _ kind, locked]

/-- Settles O27: frozen paging is fixed by every request left in the queue. -/
theorem everyStepKeepsPagingFrozen : Obligations.EveryStepKeepsPagingFrozen := by
  unfold Obligations.EveryStepKeepsPagingFrozen
  intro p s t isFrozen
  exact ⟨fun run => (stepCase_of_step run).keeps_frozen rfl isFrozen,
    fun c gated run => (stepCase_of_stepFor run).keeps_frozen gated isFrozen⟩

/-- Settles O28: frozen paging is fixed, and a fixed PagingState survives any run. -/
theorem frozenPagingSurvivesAnyRun : Obligations.FrozenPagingSurvivesAnyRun := by
  unfold Obligations.FrozenPagingSurvivesAnyRun
  intro n p s isFrozen
  exact run_keeps_pagingFixed n p s (pagingFixed_of_frozen hardware rfl p s isFrozen)

/-- Settles O44: the soft reset leaves the locked reset values, which every request left in the queue keeps. -/
theorem lockSurvivesSoftReset : Obligations.LockSurvivesSoftReset := by
  unfold Obligations.LockSurvivesSoftReset
  intro s locked queue
  have harmless : ∀ r ∈ s.pending, unlocks r = false := by
    simpa only [List.all_eq_true, Bool.not_eq_true'] using queue
  have fixed : PagingFixed hardware PagingState.lockedReset (softReset s) :=
    ⟨by rw [softReset_paging, locked]; rfl, fun r asked => pagingAfter_lockedReset hardware rfl r (harmless r asked)⟩
  rw [← execFor_hardware]
  exact ⟨softReset s, execFor_resetSoft hardware s, fun n => run_keeps_pagingFixed n _ _ fixed⟩

/-- Settles O58: a step that changes PagingState has a request, whose `pagingAfter` changes it. -/
theorem pagingChangesOnlyByItsOwners : Obligations.PagingChangesOnlyByItsOwners := by
  unfold Obligations.PagingChangesOnlyByItsOwners
  intro s t run changed
  have by_case := stepCase_of_step run
  match queue : s.pending with
  | [] => exact absurd (by_case.paging_nil queue) changed
  | r :: rest =>
    rw [by_case.paging_cons queue] at changed
    rcases owner_of_pagingAfter_ne hardware r s.paging changed with ⟨w, inputs, rfl, owner⟩ | ⟨record, rfl⟩
    · exact .inl ⟨w, inputs, rest, rfl, owner⟩
    · exact .inr ⟨record, rest, rfl⟩
end

section
/-!
The output of a step (spec 70_reset_and_hazards.md R185, R188, 10_state.md R28): obligations O39 and O54.
-/

namespace Sys2Proof.Machine

/-- The events of a `WritePort` are in one of the orders of R185, in a build whose penalty is 3. -/
theorem writePort_legalEvents (c : Params) (penalty : c.sndPenalty = 3) (port : Port) (v : Byte) (s : State) :
    legalEvents (writePort c port v s).events = true := by
  unfold writePort
  split_ifs
  · rfl
  · rw [ulaWrite_eq]
    by_cases same : borderField v = latchedBorder (beginWrite port s) <;> simp [same, legalEvents]
  · simp [soundSelectWrite_eq, legalEvents, penalty]
  · simp [soundDataWrite_eq, legalEvents, penalty]
  · rfl

/-- A host call returns no read byte. -/
theorem hostCall_returnedByte (call : HostCall) (s : State) : returnedByte (hostCall call s).reply = false := by
  cases call with
  | snapshotGet => rfl
  | clearInputRead => rfl
  | snapshotSet r =>
    change returnedByte (snapshotSet r (beginSilent s)).reply = false
    unfold snapshotSet
    split_ifs <;> rfl
  | ask a => cases a <;> rfl

/-- An output without a read byte is legal when its events are. -/
theorem legalOutput_of_no_byte (s : State) (events : legalEvents s.events = true)
    (noByte : returnedByte s.reply = false) : legalOutput s = true := by
  rw [legalOutput, events, noByte]
  rfl

/-- Every step of a build whose penalty is 3 leaves a legal output, whatever the output before it was. -/
theorem StepCase.legalOutput {c : Params} (penalty : c.sndPenalty = 3) {s t : State} (by_case : StepCase c s t) :
    legalOutput t = true := by
  cases by_case with
  | idle => exact legalOutput_of_no_byte _ rfl rfl
  | read => rfl
  | write w inputs rest oldest kind =>
    obtain ⟨-, noReply, -⟩ := writePort_frame c (portOf w) (dataOf w) (accept inputs rest s)
    exact legalOutput_of_no_byte _ (writePort_legalEvents c penalty _ _ _) (by rw [noReply]; rfl)
  | powerOn => exact legalOutput_of_no_byte _ rfl rfl
  | soft => exact legalOutput_of_no_byte _ rfl rfl
  | host call rest oldest =>
    obtain ⟨-, -, -, noEvents, -⟩ := hostCall_frame call (dequeue rest s)
    exact legalOutput_of_no_byte _ (by rw [noEvents]; rfl) (hostCall_returnedByte call _)

/-- A class of the default build emits `CyclePenalty` exactly when it is a sound write or select, and then
of 3 (R148). -/
theorem execFor_penalty (i : Instr) (s : State) (n : Nat) :
    ∃ t, execFor hardware i s = .next t ∧ (Event.cyclePenalty n ∈ t.events ↔
      n = 3 ∧ ∃ port v, i = .outSndSel port v ∨ i = .outSndDat port v) := by
  cases i
  case outSndSel port v => exact ⟨_, execFor_outSndSel hardware port v s, by simp [hardware]⟩
  case outSndDat port v => exact ⟨_, execFor_outSndDat hardware port v s, by simp [hardware]⟩
  case outUla port v => exact ⟨_, execFor_outUla hardware port v s, by split_ifs <;> simp⟩
  all_goals exact ⟨_, rfl, by simp⟩

end Sys2Proof.Machine

open Sys2Proof Sys2Proof.Machine

/-- Settles O39: the step runs the decoded class. -/
theorem penaltyExactlyOnSoundWrites : Obligations.PenaltyExactlyOnSoundWrites := by
  unfold Obligations.PenaltyExactlyOnSoundWrites
  intro s w inputs rest n oldest
  rw [step_transaction s w inputs rest oldest, ← execFor_hardware]
  exact execFor_penalty (decode hardware w) (accept inputs rest s) n

/-- Settles O54: no step's output depends on the one before it, so the premise is not used. -/
theorem everyStepKeepsOutputLegal : Obligations.EveryStepKeepsOutputLegal := by
  unfold Obligations.EveryStepKeepsOutputLegal
  intro s t _
  exact ⟨fun run => (stepCase_of_step run).legalOutput rfl,
    fun c penalty run => (stepCase_of_stepFor run).legalOutput penalty⟩
end

section
/-!
The fault mark and the host's contract (spec 60_exceptions.md R172, 44_host.md R163, 10_state.md R27): obligations O55,
O56 and O57.
-/

namespace Sys2Proof.Machine

/-- The one request that asks for the ROM index (R107). -/
theorem asksRomPage_iff (r : Request) : asksRomPage r = true ↔ r = .host (.ask .currentRomPageIndex) := by
  match r with
  | .transaction _ _ => simp [asksRomPage]
  | .host .snapshotGet => simp [asksRomPage]
  | .host (.snapshotSet _) => simp [asksRomPage]
  | .host .clearInputRead => simp [asksRomPage]
  | .host (.ask a) => simp [asksRomPage]

/-- A host call keeps a set mark, and sets it by asking for the ROM index in special mode alone (R107, R172). -/
theorem hostCall_mark (call : HostCall) (s : State) :
    (hostCall call s).romIndexInSpecialMode =
      (s.romIndexInSpecialMode || (asksRomPage (.host call) && s.paging.specialPagingMode)) := by
  match call with
  | .snapshotGet => exact (Bool.or_false _).symm
  | .clearInputRead => exact (Bool.or_false _).symm
  | .snapshotSet r =>
    obtain ⟨-, -, mark, -⟩ := snapshotSet_frame r (beginSilent s)
    exact mark.trans (Bool.or_false _).symm
  | .ask a =>
    cases a
    case currentRomPageIndex =>
      cases mode : s.paging.specialPagingMode
      · rw [hostCall, ask_currentRomPageIndex_normal (beginSilent s) mode]
        simp
      · rw [hostCall, ask_currentRomPageIndex_special (beginSilent s) mode]
        simp [asksRomPage]
    all_goals exact (Bool.or_false _).symm

/-- The mark after a step: kept but by a power-on word, or set by the ROM query in special mode (R172). -/
theorem StepCase.mark_iff {c : Params} {s t : State} (by_case : StepCase c s t) :
    t.romIndexInSpecialMode = true ↔
      (s.romIndexInSpecialMode = true ∧
        ¬ ∃ w inputs rest, s.pending = .transaction w inputs :: rest ∧ kindOf w = 0b10#2) ∨
      (s.paging.specialPagingMode = true ∧ ∃ rest, s.pending = .host (.ask .currentRomPageIndex) :: rest) := by
  cases by_case with
  | idle nothing => simp [nothing]
  | read w inputs rest oldest kind => simp [oldest, kind, readPort]
  | write w inputs rest oldest kind =>
    obtain ⟨-, -, mark, -⟩ := writePort_frame c (portOf w) (dataOf w) (accept inputs rest s)
    simp [oldest, kind, mark]
  | powerOn w inputs rest oldest kind => simp [oldest, kind]
  | soft w inputs rest oldest kind => simp [oldest, kind]
  | host call rest oldest =>
    have asks := asksRomPage_iff (.host call)
    simp only [Request.host.injEq] at asks
    simp [oldest, hostCall_mark, asks, and_comm]

/-- The contract's three clauses (R163, R27). -/
theorem honestHost_iff (c : Params) (s : State) :
    honestHost c s = true ↔ s.romIndexInSpecialMode = false ∧ asksInNormalMode c s.paging s.pending = true ∧
      cyclesFrom s.inputs.cycle s.pending = true := by
  simp only [honestHost, Bool.and_eq_true, Bool.not_eq_true', and_assoc]

/-- The next request does not ask for the ROM index in special mode, and the contract holds from what it leaves on. -/
theorem asksInNormalMode_cons (c : Params) (p : PagingState) (r : Request) (rest : List Request) :
    asksInNormalMode c p (r :: rest) = true ↔ (asksRomPage r = true → p.specialPagingMode = false) ∧
      asksInNormalMode c (pagingAfter c r p) rest = true := by
  cases asked : asksRomPage r <;> simp [asksInNormalMode, asked]

/-- A transaction's cycle count is no less than the one before it, and the rest of the queue goes on from it (R27). -/
theorem cyclesFrom_transaction (n : Nat) (w : TxWord) (inputs : Inputs) (rest : List Request)
    (cycles : cyclesFrom n (.transaction w inputs :: rest) = true) : cyclesFrom inputs.cycle rest = true :=
  (Bool.and_eq_true_iff.mp cycles).2

/-- A step leaves on the lines a cycle count from which the rest of the queue never runs backwards (R27). -/
theorem StepCase.keeps_cycles {c : Params} {s t : State} (by_case : StepCase c s t)
    (cycles : cyclesFrom s.inputs.cycle s.pending = true) : cyclesFrom t.inputs.cycle t.pending = true := by
  cases by_case with
  | idle => exact cycles
  | read w inputs rest oldest kind => exact cyclesFrom_transaction _ w inputs rest (oldest ▸ cycles)
  | write w inputs rest oldest kind =>
    obtain ⟨-, -, -, lines, queue⟩ := writePort_frame c (portOf w) (dataOf w) (accept inputs rest s)
    rw [lines, queue]
    exact cyclesFrom_transaction _ w inputs rest (oldest ▸ cycles)
  | powerOn w inputs rest oldest kind => exact cyclesFrom_transaction _ w inputs rest (oldest ▸ cycles)
  | soft w inputs rest oldest kind => exact cyclesFrom_transaction _ w inputs rest (oldest ▸ cycles)
  | host call rest oldest =>
    obtain ⟨-, -, lines, -, queue⟩ := hostCall_frame call (dequeue rest s)
    rw [oldest] at cycles
    rw [lines, queue]
    exact cycles

/-- A step leaves a PagingState from which the rest of the queue never asks for the ROM index in special mode (R163). -/
theorem StepCase.keeps_asksInNormalMode {c : Params} {s t : State} (by_case : StepCase c s t)
    (asks : asksInNormalMode c s.paging s.pending = true) : asksInNormalMode c t.paging t.pending = true := by
  rw [by_case.pending]
  match queue : s.pending with
  | [] => rfl
  | r :: rest =>
    rw [queue, asksInNormalMode_cons] at asks
    rw [by_case.paging_cons queue]
    exact asks.2

/-- Where the mark is clear and the oldest request does not ask for the ROM index in special mode, a step leaves the
mark clear (R172). -/
theorem StepCase.keeps_mark_clear {c : Params} {s t : State} (by_case : StepCase c s t)
    (clear : s.romIndexInSpecialMode = false) (asks : asksInNormalMode c s.paging s.pending = true) :
    t.romIndexInSpecialMode = false := by
  refine Bool.eq_false_iff.mpr fun marked => ?_
  rcases by_case.mark_iff.mp marked with ⟨set, -⟩ | ⟨special, rest, oldest⟩
  · exact Bool.false_ne_true (clear.symm.trans set)
  · rw [oldest, asksInNormalMode_cons] at asks
    exact Bool.false_ne_true ((asks.1 rfl).symm.trans special)

/-- A step of any build keeps the contract. -/
theorem StepCase.keeps_honestHost {c : Params} {s t : State} (by_case : StepCase c s t)
    (honest : honestHost c s = true) : honestHost c t = true := by
  obtain ⟨clear, asks, cycles⟩ := (honestHost_iff c s).mp honest
  exact (honestHost_iff c t).mpr
    ⟨by_case.keeps_mark_clear clear asks, by_case.keeps_asksInNormalMode asks, by_case.keeps_cycles cycles⟩

end Sys2Proof.Machine

open Sys2Proof Sys2Proof.Machine

/-- Settles O55: each clause of the contract is kept by a step; the machine is the default build. -/
theorem honestHostNeverMeetsTheFault : Obligations.HonestHostNeverMeetsTheFault := by
  unfold Obligations.HonestHostNeverMeetsTheFault
  intro s t
  exact ⟨fun honest run => (stepCase_of_step run).keeps_honestHost honest,
    fun _ honest run => (stepCase_of_stepFor run).keeps_honestHost honest⟩

/-- Settles O56: at reset nothing is asked, nothing was emitted and the mark is clear. -/
theorem invariantsHoldAtReset : Obligations.InvariantsHoldAtReset := by
  unfold Obligations.InvariantsHoldAtReset
  exact ⟨rfl, fun c => (honestHost_iff c State.reset).mpr ⟨rfl, rfl, rfl⟩⟩

/-- Settles O57: the six cases of a step at the default build. -/
theorem faultMarkIsSticky : Obligations.FaultMarkIsSticky := by
  unfold Obligations.FaultMarkIsSticky
  exact fun s t run => (stepCase_of_step run).mark_iff
end

section
/-!
Who changes the latch and the sound file, and the border flushes of a run of ULA writes (spec 10_state.md R21, R24, R25,
43_port_write.md R143 to R147): obligations O35 and O59.
-/

namespace Sys2Proof.Machine

/-! ## The fields `WritePort` writes off the paging ports -/

/-- `WritePort` writes the latch on an even port that is on no paging port, and nowhere else (R143). -/
theorem writePort_lastUlaOut (c : Params) (port : Port) (v : Byte) (s : State) :
    (writePort c port v s).lastUlaOut =
      if pagingPort c port = false ∧ isEven port = true then v else s.lastUlaOut := by
  unfold writePort
  split_ifs <;> simp_all [ulaWrite_eq, soundSelectWrite_eq, soundDataWrite_eq]

/-- `WritePort` writes the sound index on an odd port of the select pattern that is on no paging port, and nowhere else
(R146). -/
theorem writePort_soundSel (c : Params) (port : Port) (v : Byte) (s : State) :
    (writePort c port v s).soundSel =
      if pagingPort c port = false ∧ isEven port = false ∧ soundSelect c port = true then soundIndexField v
      else s.soundSel := by
  unfold writePort
  split_ifs <;> simp_all [ulaWrite_eq, soundSelectWrite_eq, soundDataWrite_eq]

/-- `WritePort` leaves the sound registers alone but on an odd port of the data pattern that is on no pattern before it
(R147). -/
theorem writePort_soundReg_of_ne (c : Params) (port : Port) (v : Byte) (s : State)
    (changed : (writePort c port v s).soundReg ≠ s.soundReg) :
    pagingPort c port = false ∧ isEven port = false ∧ soundSelect c port = false ∧ soundData c port = true := by
  unfold writePort at changed
  split_ifs at changed <;> simp_all [ulaWrite_eq, soundSelectWrite_eq, soundDataWrite_eq]

/-- A host call changes the latch by a restore alone (R161). -/
theorem hostCall_lastUlaOut (call : HostCall) (s : State) :
    (hostCall call s).lastUlaOut = s.lastUlaOut ∨ ∃ r, call = .snapshotSet r := by
  cases call with
  | snapshotGet => exact .inl rfl
  | clearInputRead => exact .inl rfl
  | snapshotSet r => exact .inr ⟨r, rfl⟩
  | ask a =>
    obtain ⟨-, kept, -⟩ := ask_frame a (beginSilent s)
    exact .inl kept

/-- A reset word has bit 25 set (R61). -/
theorem bit25_of_reset (w : TxWord) (kind : kindOf w = 0b10#2 ∨ kindOf w = 0b11#2) : w.getLsbD 25 = true := by
  rw [getLsbD_25_eq]
  rcases kind with kind | kind <;> rw [kind] <;> rfl

/-! ## The owners of the latch and the sound file -/

/-- The latch changes by a ULA write of its new value, a reset or a restore (R21). -/
theorem StepCase.latch_owner {c : Params} {s t : State} (by_case : StepCase c s t)
    (changed : t.lastUlaOut ≠ s.lastUlaOut) :
    (∃ w inputs rest, s.pending = .transaction w inputs :: rest ∧
      ((∃ port, decode c w = .outUla port t.lastUlaOut) ∨ w.getLsbD 25 = true)) ∨
    ∃ r rest, s.pending = .host (.snapshotSet r) :: rest := by
  cases by_case with
  | idle | read => exact absurd rfl changed
  | write w inputs rest oldest kind =>
    refine .inl ⟨w, inputs, rest, oldest, .inl ⟨portOf w, ?_⟩⟩
    rw [writePort_lastUlaOut] at changed ⊢
    split_ifs at changed ⊢ with ula
    · rw [decode_write c w kind, decodeWrite_ula c _ _ ula.1 ula.2]
    · exact absurd rfl changed
  | powerOn w inputs rest oldest kind => exact .inl ⟨w, inputs, rest, oldest, .inr (bit25_of_reset w (.inl kind))⟩
  | soft w inputs rest oldest kind => exact .inl ⟨w, inputs, rest, oldest, .inr (bit25_of_reset w (.inr kind))⟩
  | host call rest oldest =>
    rcases hostCall_lastUlaOut call (dequeue rest s) with kept | ⟨r, rfl⟩
    · exact absurd kept changed
    · exact .inr ⟨r, rest, oldest⟩

/-- The sound index changes by a sound select of its new value or a reset (R24). -/
theorem StepCase.soundSel_owner {c : Params} {s t : State} (by_case : StepCase c s t)
    (changed : t.soundSel ≠ s.soundSel) :
    ∃ w inputs rest, s.pending = .transaction w inputs :: rest ∧
      ((∃ port v, decode c w = .outSndSel port v ∧ t.soundSel = soundIndexField v) ∨ w.getLsbD 25 = true) := by
  cases by_case with
  | idle | read => exact absurd rfl changed
  | write w inputs rest oldest kind =>
    refine ⟨w, inputs, rest, oldest, .inl ⟨portOf w, dataOf w, ?_⟩⟩
    rw [writePort_soundSel] at changed ⊢
    split_ifs at changed ⊢ with select
    · obtain ⟨noPaging, odd, onPattern⟩ := select
      rw [decode_write c w kind, decodeWrite_sndSel c _ _ noPaging odd onPattern]
      exact ⟨rfl, rfl⟩
    · exact absurd rfl changed
  | powerOn w inputs rest oldest kind => exact ⟨w, inputs, rest, oldest, .inr (bit25_of_reset w (.inl kind))⟩
  | soft w inputs rest oldest kind => exact ⟨w, inputs, rest, oldest, .inr (bit25_of_reset w (.inr kind))⟩
  | host call rest oldest =>
    obtain ⟨kept, -⟩ := hostCall_frame call (dequeue rest s)
    exact absurd kept changed

/-- A sound register changes by a sound write or a reset (R25). -/
theorem StepCase.soundReg_owner {c : Params} {s t : State} (by_case : StepCase c s t)
    (changed : t.soundReg ≠ s.soundReg) :
    ∃ w inputs rest, s.pending = .transaction w inputs :: rest ∧
      ((∃ port v, decode c w = .outSndDat port v) ∨ w.getLsbD 25 = true) := by
  cases by_case with
  | idle | read => exact absurd rfl changed
  | write w inputs rest oldest kind =>
    obtain ⟨noPaging, odd, noSelect, data⟩ := writePort_soundReg_of_ne c _ _ _ changed
    refine ⟨w, inputs, rest, oldest, .inl ⟨portOf w, dataOf w, ?_⟩⟩
    rw [decode_write c w kind, decodeWrite_sndDat c _ _ noPaging odd noSelect data]
  | powerOn w inputs rest oldest kind => exact ⟨w, inputs, rest, oldest, .inr (bit25_of_reset w (.inl kind))⟩
  | soft w inputs rest oldest kind => exact ⟨w, inputs, rest, oldest, .inr (bit25_of_reset w (.inr kind))⟩
  | host call rest oldest =>
    obtain ⟨-, kept, -⟩ := hostCall_frame call (dequeue rest s)
    exact absurd kept changed

/-! ## Runs of ULA writes -/

/-- The events of a run are those of its first step, then those of the others. -/
theorem eventsOfRun_succ (n : Nat) {s t : State} (first : step s = .next t) :
    eventsOfRun (n + 1) s = t.events ++ eventsOfRun n t := by
  rw [eventsOfRun, first]

/-- A queued ULA write leaves the rest of the queue and its value in the latch, and flushes the border once when the
colour changes (R143, R144). -/
theorem step_ulaWrite (s : State) (port : Port) (v : Byte) (inputs : Inputs) (rest : List Request)
    (oldest : s.pending = .transaction (txWord 0b01#2 port v) inputs :: rest) (even : isEven port = true)
    (noPaging : pagingPort hardware port = false) :
    ∃ t, step s = .next t ∧ t.pending = rest ∧ t.lastUlaOut = v ∧
      t.events.countP isFlush = if borderField v = latchedBorder s then 0 else 1 := by
  have ula : decode hardware (txWord 0b01#2 port v) = .outUla port v := by
    rw [decode_write hardware _ (kindOf_txWord _ port v), portOf_txWord, dataOf_txWord,
      decodeWrite_ula hardware port v noPaging even]
  rw [step_transaction s _ inputs rest oldest, ula, ← execFor_hardware]
  refine ⟨_, execFor_outUla hardware port v _, rfl, rfl, ?_⟩
  change (ite (borderField v = latchedBorder s) _ _ : List Event).countP isFlush = _
  split_ifs <;> rfl

end Sys2Proof.Machine

open Sys2Proof Sys2Proof.Machine

/-- Settles O35: by induction on the writes; the first step flushes for the first colour and leaves its value in the
latch for the others. -/
theorem borderFlushesCountColourChanges : Obligations.BorderFlushesCountColourChanges := by
  unfold Obligations.BorderFlushesCountColourChanges
  intro writes rest s ports queue
  induction writes generalizing s with
  | nil => rfl
  | cons write more ih =>
    obtain ⟨port, v, inputs⟩ := write
    obtain ⟨bit0, noPaging⟩ := ports (port, v, inputs) List.mem_cons_self
    have even : isEven port = true := by rw [isEven, bitReset, bit0, Bool.not_false]
    obtain ⟨t, first, pending, latch, flushes⟩ := step_ulaWrite s port v inputs _ queue even noPaging
    have others := ih t (fun x later => ports x (List.mem_cons_of_mem _ later)) pending
    rw [List.length_cons, eventsOfRun_succ _ first, List.countP_append, flushes, others, latch]
    rfl

/-- Settles O59: one lemma for each field, at the default build. -/
theorem latchAndSoundChangeOnlyByTheirOwners : Obligations.LatchAndSoundChangeOnlyByTheirOwners := by
  unfold Obligations.LatchAndSoundChangeOnlyByTheirOwners
  intro s t run
  have by_case := stepCase_of_step run
  exact ⟨by_case.latch_owner, by_case.soundSel_owner, by_case.soundReg_owner⟩
end
